-- ==== Sys2Proof/Word.lean ====
section
/-! DEFINITION. The machine's word types (spec/00_scope.md R8: 8-bit registers and latches, 16-bit PC, SP and
addresses). Everything that computes on them lives in the files a repair may mend. -/

namespace Sys2Proof

/-- An 8-bit value: a register, a memory byte, a port number, a latch (R8). -/
abbrev Byte := BitVec 8

/-- A 16-bit value: SP, PC, a register pair, a 16-bit operand (R8). -/
abbrev Word := BitVec 16

/-- The 16-bit address every memory access carries (R8, R44). -/
abbrev Addr := BitVec 16

end Sys2Proof
end

