-- ==== Sys2Proof/Config.lean ====
section
/-! DEFINITION. The configuration record of spec/00_scope.md R7 and the free values behind its OPEN parameters.
A machine's configuration never changes; it is carried in `State` so that a statement about every state holds for
every configuration (log entry 1). -/

namespace Sys2Proof

/-- `OOB_POLICY` (R44): what an access at or above `MEM_SIZE` does. -/
inductive OobPolicy where
  | fault
  | wrap
deriving DecidableEq, Repr, Inhabited

/-- `SUB_CY_SENSE` (R109, conflict C1): whether CY after a subtraction is the borrow or its inverse. -/
inductive SubCySense where
  | borrow
  | notBorrow
deriving DecidableEq, Repr, Inhabited

/-- `ALT_ADVANCE` (R160, conflict C4): which tick outcomes move the alternation marker. -/
inductive AltAdvance where
  | onTick
  | onDelivery
deriving DecidableEq, Repr, Inhabited

/-- The parameters of the table in spec/00_scope.md section 4 (R7), one field each, in the table's order. -/
structure Config where
  memSize            : Nat
  oobPolicy          : OobPolicy
  protectLimit       : Nat
  videoBase          : Nat
  videoLimit         : Nat
  loadOrigin         : Nat
  subCySense         : SubCySense
  enablePchl         : Bool
  portInPresent      : Byte
  presentValue       : Byte
  portInButtons      : Byte
  portInShift        : Byte
  portOutShiftOffset : Byte
  portOutShiftData   : Byte
  vecA               : BitVec 3
  vecB               : BitVec 3
  altAdvance         : AltAdvance
deriving DecidableEq, Repr

/-- Free value (log entry 2): which of the 254 input ports other than the reference target's buttons and shift
ports is `PORT_IN_PRESENT`, which the spec leaves OPEN (R166, D18). -/
opaque Config.openPresentChoice : Fin 254

/-- Free value (log entry 2): `PRESENT_VALUE`, which the spec leaves OPEN (R166, D18). -/
opaque Config.openPresentValue : Byte

/-- Free value (log entry 2): `ALT_ADVANCE`, which the spec leaves OPEN (R160, D20). -/
opaque Config.openAltAdvance : AltAdvance

/-- `PORT_IN_PRESENT` of the reference target: any port but 0x01 and 0x03, so that R7's distinctness holds. -/
def Config.openPresentPort : Byte :=
  let n := Config.openPresentChoice.val
  if n = 0 then 0x00#8 else if n = 1 then 0x02#8 else BitVec.ofNat 8 (n + 2)

/-- The reference target's values (the table of spec/00_scope.md section 4); OPEN entries are free values. -/
def Config.reference : Config where
  memSize            := 0x4000
  oobPolicy          := .fault
  protectLimit       := 0x2000
  videoBase          := 0x2400
  videoLimit         := 0x4000
  loadOrigin         := 0x0000
  subCySense         := .borrow
  enablePchl         := false
  portInPresent      := Config.openPresentPort
  presentValue       := Config.openPresentValue
  portInButtons      := 0x01#8
  portInShift        := 0x03#8
  portOutShiftOffset := 0x02#8
  portOutShiftData   := 0x04#8
  vecA               := 1#3
  vecB               := 2#3
  altAdvance         := Config.openAltAdvance

end Sys2Proof
end

