-- ==== Sys2Proof/Machine/State.lean ====
section
/-! DEFINITION. The machine's state (spec/10_state.md), its reset value (R42, R175) and the reasons a step stops.
Plain data throughout: memory and the latch file are lists of cells in one canonical form. -/

namespace Sys2Proof.Machine

/-- The general registers (R20). -/
structure Regs where
  a : Byte
  b : Byte
  c : Byte
  d : Byte
  e : Byte
  h : Byte
  l : Byte
deriving DecidableEq, Repr

/-- The five flags (R25). -/
structure Flags where
  s  : Bool
  z  : Bool
  ac : Bool
  p  : Bool
  cy : Bool
deriving DecidableEq, Repr

/-- Bytes by index, ascending, none listed that equals what an unlisted index reads as (`Memory.wf`). -/
abbrev Memory := List Host.Cell

/-- The barrel shifter: newer byte, older byte, 3-bit offset (R33). -/
structure Shifter where
  hi  : Byte
  lo  : Byte
  off : BitVec 3
deriving DecidableEq, Repr

/-- A ProtectedWrite record: the address a dropped write named and the byte it would have stored (R36, R157). -/
structure ProtectedWrite where
  addr : Addr
  byte : Byte
deriving DecidableEq, Repr

/-- The three fault kinds of R151, codes 1, 2 and 3 in this order. -/
inductive FaultKind where
  | unimplementedOpcode
  | invalidInternalSelector
  | outOfRange
deriving DecidableEq, Repr

/-- The `fault` record `(kind, addr, byte)` of R38; `byte` is `none` where R151 records None. -/
structure FaultRecord where
  kind : FaultKind
  addr : Addr
  byte : Option Byte
deriving DecidableEq, Repr

/-- An external event of R163. A vector is any number, since R158 gives `raise` a meaning above 7. -/
inductive HostEvent where
  | tick
  | raise (v : Nat)
  | latch (p : Byte) (b : Byte)
deriving DecidableEq, Repr

/-- What the host does around the end of one iteration: the events it drains there (R163), and whether it calls
`clearDirty()` before the next (R50). -/
structure HostTurn where
  events     : List HostEvent
  clearDirty : Bool
deriving DecidableEq, Repr

/-- Everything the spec gives the machine (spec/10_state.md R20-R38, R43), and two fields of the model's own: the
configuration (log entry 1) and the host's future turns (log entry 3). -/
structure State where
  regs     : Regs
  sp       : Word
  pc       : Addr
  flags    : Flags
  ime      : Bool
  mem      : Memory
  latch    : Memory
  shifter  : Shifter
  altLast  : BitVec 3
  dirty    : Bool
  events   : List ProtectedWrite
  halted   : Bool
  fault    : Option FaultRecord
  cfg      : Config
  timeline : List HostTurn
deriving DecidableEq, Repr

/-- The state after reset, before any load: everything zero, empty or none (R42, R175, R177). The configuration is
the reference target's; the timeline is empty (log entry 3, DESIGN CHOICE). -/
def State.reset : State where
  regs     := { a := 0, b := 0, c := 0, d := 0, e := 0, h := 0, l := 0 }
  sp       := 0
  pc       := 0
  flags    := { s := false, z := false, ac := false, p := false, cy := false }
  ime      := false
  mem      := []
  latch    := []
  shifter  := { hi := 0, lo := 0, off := 0 }
  altLast  := 0
  dirty    := false
  events   := []
  halted   := false
  fault    := none
  cfg      := Config.reference
  timeline := []

/-- Why the machine stops. The spec's own faults are no stop here: each is a next state that holds the fault record,
and ends the run (log entry 4). -/
inductive Fault where
  /-- Raised by `step` alone, on a state whose run has ended (`halted`, or a fault record): R150 gives such a step no
  move. Safe: nothing can be proved of what follows the end of a run. -/
  | runEnded
deriving DecidableEq, Repr

/-- Why the model refuses. -/
inductive Refusal where
  /-- An instruction without a meaning, by its table mnemonic. No arm of `exec` uses it. Safe. -/
  | notModelled (mnemonic : String)
  /-- Raised by `loadImage` alone: the image does not fit below `MEM_SIZE`, and R65 has a model refuse it. Safe. -/
  | imageTooLarge
deriving DecidableEq, Repr

/-- The outcome of a meaning or a step. -/
abbrev Outcome := Host.Outcome State Fault Refusal

end Sys2Proof.Machine
end

