-- ==== Sys2Proof/Syntax.lean ====
section
/-! DEFINITION. The operand selectors of spec/30_encoding.md (R69-R73) and the instruction type: one constructor
for each of the 256 rows of spec/opcode_table.json, in the table's order, the 13 unimplemented rows last (R76).
Operand bytes are the constructor's arguments (R75). -/

namespace Sys2Proof

/-- The seven 8-bit registers (R20). -/
inductive Reg where
  | b | c | d | e | h | l | a
deriving DecidableEq, Repr

/-- The eight locations a 3-bit slot field selects (R69); `mem` is slot 6, the byte at HL. -/
inductive Slot where
  | reg (r : Reg)
  | mem
deriving DecidableEq, Repr

/-- The pair field of LXI, INX, DCX and DAD (R70). -/
inductive RegPair where
  | bc | de | hl | sp
deriving DecidableEq, Repr

/-- The pair field of PUSH and POP (R71). -/
inductive StackPair where
  | bc | de | hl | psw
deriving DecidableEq, Repr

/-- The one-bit pair field of LDAX and STAX (R68 format X). -/
inductive IndirectPair where
  | bc | de
deriving DecidableEq, Repr

/-- The 3-bit ALU field (R72). -/
inductive AluOp where
  | add | adc | sub | sbb | ana | xra | ora | cmp
deriving DecidableEq, Repr

/-- The 3-bit condition field (R73). -/
inductive Cond where
  | nz | z | nc | c | po | pe | p | m
deriving DecidableEq, Repr

/-- The rows of the opcode map (R76), one constructor each. `alias..` and `daa` are the 13 unimplemented values of
R78; `pchl` is an instruction only when `ENABLE_PCHL` is true (R144). -/
inductive Instr where
  /-- 0x00 NOP (R82) -/
  | nop
  /-- 0x01 LXI B,d16 (R88) -/
  | lxiB (d16 : Word)
  /-- 0x02 STAX B (R90) -/
  | staxB
  /-- 0x03 INX B (R106) -/
  | inxB
  /-- 0x04 INR B (R133) -/
  | inrB
  /-- 0x05 DCR B (R134) -/
  | dcrB
  /-- 0x06 MVI B,d8 (R86) -/
  | mviB (d8 : Byte)
  /-- 0x07 RLC (R126) -/
  | rlc
  /-- 0x09 DAD B (R108) -/
  | dadB
  /-- 0x0A LDAX B (R89) -/
  | ldaxB
  /-- 0x0B DCX B (R107) -/
  | dcxB
  /-- 0x0C INR C (R133) -/
  | inrC
  /-- 0x0D DCR C (R134) -/
  | dcrC
  /-- 0x0E MVI C,d8 (R86) -/
  | mviC (d8 : Byte)
  /-- 0x0F RRC (R127) -/
  | rrc
  /-- 0x11 LXI D,d16 (R88) -/
  | lxiD (d16 : Word)
  /-- 0x12 STAX D (R90) -/
  | staxD
  /-- 0x13 INX D (R106) -/
  | inxD
  /-- 0x14 INR D (R133) -/
  | inrD
  /-- 0x15 DCR D (R134) -/
  | dcrD
  /-- 0x16 MVI D,d8 (R86) -/
  | mviD (d8 : Byte)
  /-- 0x17 RAL (R128) -/
  | ral
  /-- 0x19 DAD D (R108) -/
  | dadD
  /-- 0x1A LDAX D (R89) -/
  | ldaxD
  /-- 0x1B DCX D (R107) -/
  | dcxD
  /-- 0x1C INR E (R133) -/
  | inrE
  /-- 0x1D DCR E (R134) -/
  | dcrE
  /-- 0x1E MVI E,d8 (R86) -/
  | mviE (d8 : Byte)
  /-- 0x1F RAR (R129) -/
  | rar
  /-- 0x21 LXI H,d16 (R88) -/
  | lxiH (d16 : Word)
  /-- 0x22 SHLD a16 (R94) -/
  | shld (a16 : Addr)
  /-- 0x23 INX H (R106) -/
  | inxH
  /-- 0x24 INR H (R133) -/
  | inrH
  /-- 0x25 DCR H (R134) -/
  | dcrH
  /-- 0x26 MVI H,d8 (R86) -/
  | mviH (d8 : Byte)
  /-- 0x29 DAD H (R108) -/
  | dadH
  /-- 0x2A LHLD a16 (R93) -/
  | lhld (a16 : Addr)
  /-- 0x2B DCX H (R107) -/
  | dcxH
  /-- 0x2C INR L (R133) -/
  | inrL
  /-- 0x2D DCR L (R134) -/
  | dcrL
  /-- 0x2E MVI L,d8 (R86) -/
  | mviL (d8 : Byte)
  /-- 0x2F CMA (R130) -/
  | cma
  /-- 0x31 LXI SP,d16 (R88) -/
  | lxiSp (d16 : Word)
  /-- 0x32 STA a16 (R92) -/
  | sta (a16 : Addr)
  /-- 0x33 INX SP (R106) -/
  | inxSp
  /-- 0x34 INR M (R133) -/
  | inrM
  /-- 0x35 DCR M (R134) -/
  | dcrM
  /-- 0x36 MVI M,d8 (R87) -/
  | mviM (d8 : Byte)
  /-- 0x37 STC (R132) -/
  | stc
  /-- 0x39 DAD SP (R108) -/
  | dadSp
  /-- 0x3A LDA a16 (R91) -/
  | lda (a16 : Addr)
  /-- 0x3B DCX SP (R107) -/
  | dcxSp
  /-- 0x3C INR A (R133) -/
  | inrA
  /-- 0x3D DCR A (R134) -/
  | dcrA
  /-- 0x3E MVI A,d8 (R86) -/
  | mviA (d8 : Byte)
  /-- 0x3F CMC (R131) -/
  | cmc
  /-- 0x40 MOV B,B (R83) -/
  | movBB
  /-- 0x41 MOV B,C (R83) -/
  | movBC
  /-- 0x42 MOV B,D (R83) -/
  | movBD
  /-- 0x43 MOV B,E (R83) -/
  | movBE
  /-- 0x44 MOV B,H (R83) -/
  | movBH
  /-- 0x45 MOV B,L (R83) -/
  | movBL
  /-- 0x46 MOV B,M (R84) -/
  | movBM
  /-- 0x47 MOV B,A (R83) -/
  | movBA
  /-- 0x48 MOV C,B (R83) -/
  | movCB
  /-- 0x49 MOV C,C (R83) -/
  | movCC
  /-- 0x4A MOV C,D (R83) -/
  | movCD
  /-- 0x4B MOV C,E (R83) -/
  | movCE
  /-- 0x4C MOV C,H (R83) -/
  | movCH
  /-- 0x4D MOV C,L (R83) -/
  | movCL
  /-- 0x4E MOV C,M (R84) -/
  | movCM
  /-- 0x4F MOV C,A (R83) -/
  | movCA
  /-- 0x50 MOV D,B (R83) -/
  | movDB
  /-- 0x51 MOV D,C (R83) -/
  | movDC
  /-- 0x52 MOV D,D (R83) -/
  | movDD
  /-- 0x53 MOV D,E (R83) -/
  | movDE
  /-- 0x54 MOV D,H (R83) -/
  | movDH
  /-- 0x55 MOV D,L (R83) -/
  | movDL
  /-- 0x56 MOV D,M (R84) -/
  | movDM
  /-- 0x57 MOV D,A (R83) -/
  | movDA
  /-- 0x58 MOV E,B (R83) -/
  | movEB
  /-- 0x59 MOV E,C (R83) -/
  | movEC
  /-- 0x5A MOV E,D (R83) -/
  | movED
  /-- 0x5B MOV E,E (R83) -/
  | movEE
  /-- 0x5C MOV E,H (R83) -/
  | movEH
  /-- 0x5D MOV E,L (R83) -/
  | movEL
  /-- 0x5E MOV E,M (R84) -/
  | movEM
  /-- 0x5F MOV E,A (R83) -/
  | movEA
  /-- 0x60 MOV H,B (R83) -/
  | movHB
  /-- 0x61 MOV H,C (R83) -/
  | movHC
  /-- 0x62 MOV H,D (R83) -/
  | movHD
  /-- 0x63 MOV H,E (R83) -/
  | movHE
  /-- 0x64 MOV H,H (R83) -/
  | movHH
  /-- 0x65 MOV H,L (R83) -/
  | movHL
  /-- 0x66 MOV H,M (R84) -/
  | movHM
  /-- 0x67 MOV H,A (R83) -/
  | movHA
  /-- 0x68 MOV L,B (R83) -/
  | movLB
  /-- 0x69 MOV L,C (R83) -/
  | movLC
  /-- 0x6A MOV L,D (R83) -/
  | movLD
  /-- 0x6B MOV L,E (R83) -/
  | movLE
  /-- 0x6C MOV L,H (R83) -/
  | movLH
  /-- 0x6D MOV L,L (R83) -/
  | movLL
  /-- 0x6E MOV L,M (R84) -/
  | movLM
  /-- 0x6F MOV L,A (R83) -/
  | movLA
  /-- 0x70 MOV M,B (R85) -/
  | movMB
  /-- 0x71 MOV M,C (R85) -/
  | movMC
  /-- 0x72 MOV M,D (R85) -/
  | movMD
  /-- 0x73 MOV M,E (R85) -/
  | movME
  /-- 0x74 MOV M,H (R85) -/
  | movMH
  /-- 0x75 MOV M,L (R85) -/
  | movML
  /-- 0x76 HLT (R149) -/
  | hlt
  /-- 0x77 MOV M,A (R85) -/
  | movMA
  /-- 0x78 MOV A,B (R83) -/
  | movAB
  /-- 0x79 MOV A,C (R83) -/
  | movAC
  /-- 0x7A MOV A,D (R83) -/
  | movAD
  /-- 0x7B MOV A,E (R83) -/
  | movAE
  /-- 0x7C MOV A,H (R83) -/
  | movAH
  /-- 0x7D MOV A,L (R83) -/
  | movAL
  /-- 0x7E MOV A,M (R84) -/
  | movAM
  /-- 0x7F MOV A,A (R83) -/
  | movAA
  /-- 0x80 ADD B (R110) -/
  | addB
  /-- 0x81 ADD C (R110) -/
  | addC
  /-- 0x82 ADD D (R110) -/
  | addD
  /-- 0x83 ADD E (R110) -/
  | addE
  /-- 0x84 ADD H (R110) -/
  | addH
  /-- 0x85 ADD L (R110) -/
  | addL
  /-- 0x86 ADD M (R110) -/
  | addM
  /-- 0x87 ADD A (R110) -/
  | addA
  /-- 0x88 ADC B (R111) -/
  | adcB
  /-- 0x89 ADC C (R111) -/
  | adcC
  /-- 0x8A ADC D (R111) -/
  | adcD
  /-- 0x8B ADC E (R111) -/
  | adcE
  /-- 0x8C ADC H (R111) -/
  | adcH
  /-- 0x8D ADC L (R111) -/
  | adcL
  /-- 0x8E ADC M (R111) -/
  | adcM
  /-- 0x8F ADC A (R111) -/
  | adcA
  /-- 0x90 SUB B (R112) -/
  | subB
  /-- 0x91 SUB C (R112) -/
  | subC
  /-- 0x92 SUB D (R112) -/
  | subD
  /-- 0x93 SUB E (R112) -/
  | subE
  /-- 0x94 SUB H (R112) -/
  | subH
  /-- 0x95 SUB L (R112) -/
  | subL
  /-- 0x96 SUB M (R112) -/
  | subM
  /-- 0x97 SUB A (R112) -/
  | subA
  /-- 0x98 SBB B (R113) -/
  | sbbB
  /-- 0x99 SBB C (R113) -/
  | sbbC
  /-- 0x9A SBB D (R113) -/
  | sbbD
  /-- 0x9B SBB E (R113) -/
  | sbbE
  /-- 0x9C SBB H (R113) -/
  | sbbH
  /-- 0x9D SBB L (R113) -/
  | sbbL
  /-- 0x9E SBB M (R113) -/
  | sbbM
  /-- 0x9F SBB A (R113) -/
  | sbbA
  /-- 0xA0 ANA B (R114) -/
  | anaB
  /-- 0xA1 ANA C (R114) -/
  | anaC
  /-- 0xA2 ANA D (R114) -/
  | anaD
  /-- 0xA3 ANA E (R114) -/
  | anaE
  /-- 0xA4 ANA H (R114) -/
  | anaH
  /-- 0xA5 ANA L (R114) -/
  | anaL
  /-- 0xA6 ANA M (R114) -/
  | anaM
  /-- 0xA7 ANA A (R114) -/
  | anaA
  /-- 0xA8 XRA B (R115) -/
  | xraB
  /-- 0xA9 XRA C (R115) -/
  | xraC
  /-- 0xAA XRA D (R115) -/
  | xraD
  /-- 0xAB XRA E (R115) -/
  | xraE
  /-- 0xAC XRA H (R115) -/
  | xraH
  /-- 0xAD XRA L (R115) -/
  | xraL
  /-- 0xAE XRA M (R115) -/
  | xraM
  /-- 0xAF XRA A (R115) -/
  | xraA
  /-- 0xB0 ORA B (R116) -/
  | oraB
  /-- 0xB1 ORA C (R116) -/
  | oraC
  /-- 0xB2 ORA D (R116) -/
  | oraD
  /-- 0xB3 ORA E (R116) -/
  | oraE
  /-- 0xB4 ORA H (R116) -/
  | oraH
  /-- 0xB5 ORA L (R116) -/
  | oraL
  /-- 0xB6 ORA M (R116) -/
  | oraM
  /-- 0xB7 ORA A (R116) -/
  | oraA
  /-- 0xB8 CMP B (R117) -/
  | cmpB
  /-- 0xB9 CMP C (R117) -/
  | cmpC
  /-- 0xBA CMP D (R117) -/
  | cmpD
  /-- 0xBB CMP E (R117) -/
  | cmpE
  /-- 0xBC CMP H (R117) -/
  | cmpH
  /-- 0xBD CMP L (R117) -/
  | cmpL
  /-- 0xBE CMP M (R117) -/
  | cmpM
  /-- 0xBF CMP A (R117) -/
  | cmpA
  /-- 0xC0 RNZ (R137) -/
  | rnz
  /-- 0xC1 POP B (R100) -/
  | popB
  /-- 0xC2 JNZ a16 (R139) -/
  | jnz (a16 : Addr)
  /-- 0xC3 JMP a16 (R140) -/
  | jmp (a16 : Addr)
  /-- 0xC4 CNZ a16 (R141) -/
  | cnz (a16 : Addr)
  /-- 0xC5 PUSH B (R98) -/
  | pushB
  /-- 0xC6 ADI d8 (R118) -/
  | adi (d8 : Byte)
  /-- 0xC7 RST 0 (R143) -/
  | rst0
  /-- 0xC8 RZ (R137) -/
  | rz
  /-- 0xC9 RET (R138) -/
  | ret
  /-- 0xCA JZ a16 (R139) -/
  | jz (a16 : Addr)
  /-- 0xCC CZ a16 (R141) -/
  | cz (a16 : Addr)
  /-- 0xCD CALL a16 (R142) -/
  | call (a16 : Addr)
  /-- 0xCE ACI d8 (R119) -/
  | aci (d8 : Byte)
  /-- 0xCF RST 1 (R143) -/
  | rst1
  /-- 0xD0 RNC (R137) -/
  | rnc
  /-- 0xD1 POP D (R100) -/
  | popD
  /-- 0xD2 JNC a16 (R139) -/
  | jnc (a16 : Addr)
  /-- 0xD3 OUT p8 (R148) -/
  | out (p8 : Byte)
  /-- 0xD4 CNC a16 (R141) -/
  | cnc (a16 : Addr)
  /-- 0xD5 PUSH D (R98) -/
  | pushD
  /-- 0xD6 SUI d8 (R120) -/
  | sui (d8 : Byte)
  /-- 0xD7 RST 2 (R143) -/
  | rst2
  /-- 0xD8 RC (R137) -/
  | rc
  /-- 0xDA JC a16 (R139) -/
  | jc (a16 : Addr)
  /-- 0xDB IN p8 (R147) -/
  | inp (p8 : Byte)
  /-- 0xDC CC a16 (R141) -/
  | cc (a16 : Addr)
  /-- 0xDE SBI d8 (R121) -/
  | sbi (d8 : Byte)
  /-- 0xDF RST 3 (R143) -/
  | rst3
  /-- 0xE0 RPO (R137) -/
  | rpo
  /-- 0xE1 POP H (R100) -/
  | popH
  /-- 0xE2 JPO a16 (R139) -/
  | jpo (a16 : Addr)
  /-- 0xE3 XTHL (R103) -/
  | xthl
  /-- 0xE4 CPO a16 (R141) -/
  | cpo (a16 : Addr)
  /-- 0xE5 PUSH H (R98) -/
  | pushH
  /-- 0xE6 ANI d8 (R122) -/
  | ani (d8 : Byte)
  /-- 0xE7 RST 4 (R143) -/
  | rst4
  /-- 0xE8 RPE (R137) -/
  | rpe
  /-- 0xE9 PCHL (R144) -/
  | pchl
  /-- 0xEA JPE a16 (R139) -/
  | jpe (a16 : Addr)
  /-- 0xEB XCHG (R102) -/
  | xchg
  /-- 0xEC CPE a16 (R141) -/
  | cpe (a16 : Addr)
  /-- 0xEE XRI d8 (R123) -/
  | xri (d8 : Byte)
  /-- 0xEF RST 5 (R143) -/
  | rst5
  /-- 0xF0 RP (R137) -/
  | rp
  /-- 0xF1 POP PSW (R101) -/
  | popPsw
  /-- 0xF2 JP a16 (R139) -/
  | jp (a16 : Addr)
  /-- 0xF3 DI (R146) -/
  | di
  /-- 0xF4 CP a16 (R141) -/
  | cp (a16 : Addr)
  /-- 0xF5 PUSH PSW (R99) -/
  | pushPsw
  /-- 0xF6 ORI d8 (R124) -/
  | ori (d8 : Byte)
  /-- 0xF7 RST 6 (R143) -/
  | rst6
  /-- 0xF8 RM (R137) -/
  | rm
  /-- 0xF9 SPHL (R104) -/
  | sphl
  /-- 0xFA JM a16 (R139) -/
  | jm (a16 : Addr)
  /-- 0xFB EI (R145) -/
  | ei
  /-- 0xFC CM a16 (R141) -/
  | cm (a16 : Addr)
  /-- 0xFE CPI d8 (R125) -/
  | cpi (d8 : Byte)
  /-- 0xFF RST 7 (R143) -/
  | rst7
  /-- 0x08 unimplemented: undocumented alias (R152) -/
  | alias08
  /-- 0x10 unimplemented: undocumented alias (R152) -/
  | alias10
  /-- 0x18 unimplemented: undocumented alias (R152) -/
  | alias18
  /-- 0x20 unimplemented: undocumented alias (R152) -/
  | alias20
  /-- 0x27 unimplemented: DAA (R152) -/
  | daa
  /-- 0x28 unimplemented: undocumented alias (R152) -/
  | alias28
  /-- 0x30 unimplemented: undocumented alias (R152) -/
  | alias30
  /-- 0x38 unimplemented: undocumented alias (R152) -/
  | alias38
  /-- 0xCB unimplemented: undocumented alias (R152) -/
  | aliasCB
  /-- 0xD9 unimplemented: undocumented alias (R152) -/
  | aliasD9
  /-- 0xDD unimplemented: undocumented alias (R152) -/
  | aliasDD
  /-- 0xED unimplemented: undocumented alias (R152) -/
  | aliasED
  /-- 0xFD unimplemented: undocumented alias (R152) -/
  | aliasFD
deriving DecidableEq, Repr

end Sys2Proof
end

