-- ==== Sys2Proof/Machine/Flags.lean ====
section
/-! DEFINITION. Every flag computation of the spec: `szp` (spec/00_scope.md R16), the flags byte
(spec/10_state.md R29, R30), the eight ALU operations with their carries, DAD and the rotates
(spec/42_arith_logic.md R105, R108, R109, R126-R129). -/

namespace Sys2Proof.Machine

/-- The number of 1 bits (R11). -/
def popcount (r : Byte) : Nat := ((List.range 8).filter fun k => r.getLsbD k).length

/-- R16: Z, S and P from an 8-bit result; no other flag. -/
def Flags.szp (f : Flags) (r : Byte) : Flags :=
  { f with z := decide (r = 0), s := r.getLsbD 7, p := decide (popcount r % 2 = 0) }

/-- The bit `b` in place `n` of a byte. -/
def flagBit (b : Bool) (n : Nat) : Byte := if b then 1#8 <<< n else 0#8

/-- R29: bit 7 S, 6 Z, 5 zero, 4 AC, 3 zero, 2 P, 1 one, 0 CY. -/
def Flags.byte (f : Flags) : Byte :=
  flagBit f.s 7 ||| flagBit f.z 6 ||| flagBit f.ac 4 ||| flagBit f.p 2 ||| 0x02#8 ||| flagBit f.cy 0

/-- R30: the five flags of a flags byte; bits 5, 3 and 1 are ignored. -/
def Flags.ofByte (v : Byte) : Flags where
  s  := v.getLsbD 7
  z  := v.getLsbD 6
  ac := v.getLsbD 4
  p  := v.getLsbD 2
  cy := v.getLsbD 0

/-- `sub_cy` of R109: the carry flag for a borrow, by `SUB_CY_SENSE` (conflict C1). -/
def subCarry (sense : SubCySense) (borrow : Bool) : Bool :=
  match sense with
  | .borrow => borrow
  | .notBorrow => !borrow

/-- CY as a 9-bit number. -/
def carryIn (cy : Bool) : BitVec 9 := if cy then 1#9 else 0#9

/-- The 9-bit intermediate `t` of R109. -/
def aluWide (op : AluOp) (a v : Byte) (cy : Bool) : BitVec 9 :=
  match op with
  | .add => a.setWidth 9 + v.setWidth 9
  | .adc => a.setWidth 9 + v.setWidth 9 + carryIn cy
  | .sub => a.setWidth 9 - v.setWidth 9
  | .sbb => a.setWidth 9 - v.setWidth 9 - carryIn cy
  | .ana => (a &&& v).setWidth 9
  | .xra => (a ^^^ v).setWidth 9
  | .ora => (a ||| v).setWidth 9
  | .cmp => a.setWidth 9 - v.setWidth 9

/-- `r := t[7:0]` of R109. -/
def aluResult (op : AluOp) (a v : Byte) (cy : Bool) : Byte := (aluWide op a v cy).setWidth 8

/-- `c` of R109. -/
def aluCarry (sense : SubCySense) (op : AluOp) (a v : Byte) (cy : Bool) : Bool :=
  let t8 := (aluWide op a v cy).getLsbD 8
  match op with
  | .add => t8
  | .adc => t8
  | .sub => subCarry sense t8
  | .sbb => subCarry sense t8
  | .ana => false
  | .xra => false
  | .ora => false
  | .cmp => subCarry sense t8

/-- The flags after an ALU operation: Z, S, P of the result and the carry; AC is not written (R109, R28). -/
def aluFlags (sense : SubCySense) (op : AluOp) (a v : Byte) (f : Flags) : Flags :=
  { f.szp (aluResult op a v f.cy) with cy := aluCarry sense op a v f.cy }

/-- The 17-bit intermediate of DAD (R108). -/
def dadWide (x y : Word) : BitVec 17 := x.setWidth 17 + y.setWidth 17

/-- The four rotates (R126-R129). -/
inductive Rotate where
  | rlc | rrc | ral | rar
deriving DecidableEq, Repr

/-- The bit that leaves A and becomes CY: A[7] of a left rotate, A[0] of a right one. -/
def Rotate.out (k : Rotate) (a : Byte) : Bool :=
  match k with
  | .rlc => a.getLsbD 7
  | .rrc => a.getLsbD 0
  | .ral => a.getLsbD 7
  | .rar => a.getLsbD 0

/-- A after a rotate with carry `cy` before it. -/
def Rotate.result (k : Rotate) (a : Byte) (cy : Bool) : Byte :=
  match k with
  | .rlc => a <<< 1 ||| flagBit (a.getLsbD 7) 0
  | .rrc => a >>> 1 ||| flagBit (a.getLsbD 0) 7
  | .ral => a <<< 1 ||| flagBit cy 0
  | .rar => a >>> 1 ||| flagBit cy 7

end Sys2Proof.Machine
end

