-- ==== Sys2Proof/Machine/Bytes.lean ====
section
/-! DEFINITION. Byte order and bit fields: a pair's high register is bits 15..8 (spec/10_state.md R21) and memory is
little-endian (spec/20_memory.md R51). -/

namespace Sys2Proof

/-- `hi : lo`, the concatenation of R11 with `hi` in bits 15..8. -/
def Word.join (hi lo : Byte) : Word := hi ++ lo

/-- `v[15:8]`. -/
def Word.high (v : Word) : Byte := v.extractLsb' 8 8

/-- `v[7:0]`. -/
def Word.low (v : Word) : Byte := v.extractLsb' 0 8

/-- The unsigned number in the `width` bits of `op` from bit `lo` up (R11). -/
def Byte.field (op : Byte) (lo width : Nat) : Nat := (op.toNat >>> lo) % 2 ^ width

end Sys2Proof
end

