-- ==== Sys2Proof/Decode.lean ====
section
/-! DEFINITION. The decoder, by the fields of spec/30_encoding.md (R67-R80), total on any bytes; and the encoder, by
the opcode map of R76. The two are written from different tables of the spec. -/

namespace Sys2Proof

/-! ### The selectors -/

/-- Slot order of R69: B C D E H L M A. -/
def Slot.ofField (n : Nat) : Slot :=
  match n with
  | 0 => .reg .b
  | 1 => .reg .c
  | 2 => .reg .d
  | 3 => .reg .e
  | 4 => .reg .h
  | 5 => .reg .l
  | 6 => .mem
  | _ => .reg .a

/-- Pair order of R70: BC DE HL SP. -/
def RegPair.ofField (n : Nat) : RegPair :=
  match n with
  | 0 => .bc
  | 1 => .de
  | 2 => .hl
  | _ => .sp

/-- Pair order of R71: BC DE HL PSW. -/
def StackPair.ofField (n : Nat) : StackPair :=
  match n with
  | 0 => .bc
  | 1 => .de
  | 2 => .hl
  | _ => .psw

/-- Operation order of R72. -/
def AluOp.ofField (n : Nat) : AluOp :=
  match n with
  | 0 => .add
  | 1 => .adc
  | 2 => .sub
  | 3 => .sbb
  | 4 => .ana
  | 5 => .xra
  | 6 => .ora
  | _ => .cmp

/-- Condition order of R73. -/
def Cond.ofField (n : Nat) : Cond :=
  match n with
  | 0 => .nz
  | 1 => .z
  | 2 => .nc
  | 3 => .c
  | 4 => .po
  | 5 => .pe
  | 6 => .p
  | _ => .m

/-! ### The constructor a format and its fields select -/

/-- Format R, `01 ddd sss`; both slots 6 is HLT (R77). -/
def Instr.mov (d s : Slot) : Instr :=
  match d, s with
  | .reg .b, .reg .b => .movBB
  | .reg .b, .reg .c => .movBC
  | .reg .b, .reg .d => .movBD
  | .reg .b, .reg .e => .movBE
  | .reg .b, .reg .h => .movBH
  | .reg .b, .reg .l => .movBL
  | .reg .b, .mem => .movBM
  | .reg .b, .reg .a => .movBA
  | .reg .c, .reg .b => .movCB
  | .reg .c, .reg .c => .movCC
  | .reg .c, .reg .d => .movCD
  | .reg .c, .reg .e => .movCE
  | .reg .c, .reg .h => .movCH
  | .reg .c, .reg .l => .movCL
  | .reg .c, .mem => .movCM
  | .reg .c, .reg .a => .movCA
  | .reg .d, .reg .b => .movDB
  | .reg .d, .reg .c => .movDC
  | .reg .d, .reg .d => .movDD
  | .reg .d, .reg .e => .movDE
  | .reg .d, .reg .h => .movDH
  | .reg .d, .reg .l => .movDL
  | .reg .d, .mem => .movDM
  | .reg .d, .reg .a => .movDA
  | .reg .e, .reg .b => .movEB
  | .reg .e, .reg .c => .movEC
  | .reg .e, .reg .d => .movED
  | .reg .e, .reg .e => .movEE
  | .reg .e, .reg .h => .movEH
  | .reg .e, .reg .l => .movEL
  | .reg .e, .mem => .movEM
  | .reg .e, .reg .a => .movEA
  | .reg .h, .reg .b => .movHB
  | .reg .h, .reg .c => .movHC
  | .reg .h, .reg .d => .movHD
  | .reg .h, .reg .e => .movHE
  | .reg .h, .reg .h => .movHH
  | .reg .h, .reg .l => .movHL
  | .reg .h, .mem => .movHM
  | .reg .h, .reg .a => .movHA
  | .reg .l, .reg .b => .movLB
  | .reg .l, .reg .c => .movLC
  | .reg .l, .reg .d => .movLD
  | .reg .l, .reg .e => .movLE
  | .reg .l, .reg .h => .movLH
  | .reg .l, .reg .l => .movLL
  | .reg .l, .mem => .movLM
  | .reg .l, .reg .a => .movLA
  | .mem, .reg .b => .movMB
  | .mem, .reg .c => .movMC
  | .mem, .reg .d => .movMD
  | .mem, .reg .e => .movME
  | .mem, .reg .h => .movMH
  | .mem, .reg .l => .movML
  | .mem, .mem => .hlt
  | .mem, .reg .a => .movMA
  | .reg .a, .reg .b => .movAB
  | .reg .a, .reg .c => .movAC
  | .reg .a, .reg .d => .movAD
  | .reg .a, .reg .e => .movAE
  | .reg .a, .reg .h => .movAH
  | .reg .a, .reg .l => .movAL
  | .reg .a, .mem => .movAM
  | .reg .a, .reg .a => .movAA

/-- Format A, `10 ooo sss`. -/
def Instr.alu (op : AluOp) (s : Slot) : Instr :=
  match op, s with
  | .add, .reg .b => .addB
  | .add, .reg .c => .addC
  | .add, .reg .d => .addD
  | .add, .reg .e => .addE
  | .add, .reg .h => .addH
  | .add, .reg .l => .addL
  | .add, .mem => .addM
  | .add, .reg .a => .addA
  | .adc, .reg .b => .adcB
  | .adc, .reg .c => .adcC
  | .adc, .reg .d => .adcD
  | .adc, .reg .e => .adcE
  | .adc, .reg .h => .adcH
  | .adc, .reg .l => .adcL
  | .adc, .mem => .adcM
  | .adc, .reg .a => .adcA
  | .sub, .reg .b => .subB
  | .sub, .reg .c => .subC
  | .sub, .reg .d => .subD
  | .sub, .reg .e => .subE
  | .sub, .reg .h => .subH
  | .sub, .reg .l => .subL
  | .sub, .mem => .subM
  | .sub, .reg .a => .subA
  | .sbb, .reg .b => .sbbB
  | .sbb, .reg .c => .sbbC
  | .sbb, .reg .d => .sbbD
  | .sbb, .reg .e => .sbbE
  | .sbb, .reg .h => .sbbH
  | .sbb, .reg .l => .sbbL
  | .sbb, .mem => .sbbM
  | .sbb, .reg .a => .sbbA
  | .ana, .reg .b => .anaB
  | .ana, .reg .c => .anaC
  | .ana, .reg .d => .anaD
  | .ana, .reg .e => .anaE
  | .ana, .reg .h => .anaH
  | .ana, .reg .l => .anaL
  | .ana, .mem => .anaM
  | .ana, .reg .a => .anaA
  | .xra, .reg .b => .xraB
  | .xra, .reg .c => .xraC
  | .xra, .reg .d => .xraD
  | .xra, .reg .e => .xraE
  | .xra, .reg .h => .xraH
  | .xra, .reg .l => .xraL
  | .xra, .mem => .xraM
  | .xra, .reg .a => .xraA
  | .ora, .reg .b => .oraB
  | .ora, .reg .c => .oraC
  | .ora, .reg .d => .oraD
  | .ora, .reg .e => .oraE
  | .ora, .reg .h => .oraH
  | .ora, .reg .l => .oraL
  | .ora, .mem => .oraM
  | .ora, .reg .a => .oraA
  | .cmp, .reg .b => .cmpB
  | .cmp, .reg .c => .cmpC
  | .cmp, .reg .d => .cmpD
  | .cmp, .reg .e => .cmpE
  | .cmp, .reg .h => .cmpH
  | .cmp, .reg .l => .cmpL
  | .cmp, .mem => .cmpM
  | .cmp, .reg .a => .cmpA

/-- Format A2, `11 ooo 110` then `d8`. -/
def Instr.aluImm (op : AluOp) (d8 : Byte) : Instr :=
  match op with
  | .add => .adi d8
  | .adc => .aci d8
  | .sub => .sui d8
  | .sbb => .sbi d8
  | .ana => .ani d8
  | .xra => .xri d8
  | .ora => .ori d8
  | .cmp => .cpi d8

/-- Format D, `00 ddd 100`. -/
def Instr.inr (d : Slot) : Instr :=
  match d with
  | .reg .b => .inrB
  | .reg .c => .inrC
  | .reg .d => .inrD
  | .reg .e => .inrE
  | .reg .h => .inrH
  | .reg .l => .inrL
  | .mem => .inrM
  | .reg .a => .inrA

/-- Format D, `00 ddd 101`. -/
def Instr.dcr (d : Slot) : Instr :=
  match d with
  | .reg .b => .dcrB
  | .reg .c => .dcrC
  | .reg .d => .dcrD
  | .reg .e => .dcrE
  | .reg .h => .dcrH
  | .reg .l => .dcrL
  | .mem => .dcrM
  | .reg .a => .dcrA

/-- Format D2, `00 ddd 110` then `d8`. -/
def Instr.mvi (d : Slot) (d8 : Byte) : Instr :=
  match d with
  | .reg .b => .mviB d8
  | .reg .c => .mviC d8
  | .reg .d => .mviD d8
  | .reg .e => .mviE d8
  | .reg .h => .mviH d8
  | .reg .l => .mviL d8
  | .mem => .mviM d8
  | .reg .a => .mviA d8

/-- Format P3, `00 rr 0001` then `d16`. -/
def Instr.lxi (rr : RegPair) (d16 : Word) : Instr :=
  match rr with
  | .bc => .lxiB d16
  | .de => .lxiD d16
  | .hl => .lxiH d16
  | .sp => .lxiSp d16

/-- Format P, `00 rr 0011`. -/
def Instr.inx (rr : RegPair) : Instr :=
  match rr with
  | .bc => .inxB
  | .de => .inxD
  | .hl => .inxH
  | .sp => .inxSp

/-- Format P, `00 rr 1011`. -/
def Instr.dcx (rr : RegPair) : Instr :=
  match rr with
  | .bc => .dcxB
  | .de => .dcxD
  | .hl => .dcxH
  | .sp => .dcxSp

/-- Format P, `00 rr 1001`. -/
def Instr.dad (rr : RegPair) : Instr :=
  match rr with
  | .bc => .dadB
  | .de => .dadD
  | .hl => .dadH
  | .sp => .dadSp

/-- Format X, `000 r 0010`. -/
def Instr.stax (r : IndirectPair) : Instr :=
  match r with
  | .bc => .staxB
  | .de => .staxD

/-- Format X, `000 r 1010`. -/
def Instr.ldax (r : IndirectPair) : Instr :=
  match r with
  | .bc => .ldaxB
  | .de => .ldaxD

/-- Format S, `11 rr 0101`. -/
def Instr.push (rr : StackPair) : Instr :=
  match rr with
  | .bc => .pushB
  | .de => .pushD
  | .hl => .pushH
  | .psw => .pushPsw

/-- Format S, `11 rr 0001`. -/
def Instr.pop (rr : StackPair) : Instr :=
  match rr with
  | .bc => .popB
  | .de => .popD
  | .hl => .popH
  | .psw => .popPsw

/-- Format C, family 00, conditional: `11 ccc 000`. -/
def Instr.rcc (cc : Cond) : Instr :=
  match cc with
  | .nz => .rnz
  | .z => .rz
  | .nc => .rnc
  | .c => .rc
  | .po => .rpo
  | .pe => .rpe
  | .p => .rp
  | .m => .rm

/-- Format C, family 01, conditional: `11 ccc 010` then `a16`. -/
def Instr.jcc (cc : Cond) (a16 : Addr) : Instr :=
  match cc with
  | .nz => .jnz a16
  | .z => .jz a16
  | .nc => .jnc a16
  | .c => .jc a16
  | .po => .jpo a16
  | .pe => .jpe a16
  | .p => .jp a16
  | .m => .jm a16

/-- Format C, family 10, conditional: `11 ccc 100` then `a16`. -/
def Instr.ccc (cc : Cond) (a16 : Addr) : Instr :=
  match cc with
  | .nz => .cnz a16
  | .z => .cz a16
  | .nc => .cnc a16
  | .c => .cc a16
  | .po => .cpo a16
  | .pe => .cpe a16
  | .p => .cp a16
  | .m => .cm a16

/-- Format C, family 11: `11 nnn 111`, the condition field being the vector (R74). -/
def Instr.rst (n : Nat) : Instr :=
  match n with
  | 0 => .rst0
  | 1 => .rst1
  | 2 => .rst2
  | 3 => .rst3
  | 4 => .rst4
  | 5 => .rst5
  | 6 => .rst6
  | _ => .rst7

/-! ### The decoder -/

/-- What an opcode byte asks for before its instruction is known: nothing, one operand byte, or two (R67, R80). -/
inductive Head where
  | bare (i : Instr)
  | byte (k : Byte → Instr)
  | word (k : Word → Instr)

/-- Operand bytes after the opcode (R80). -/
def Head.operands (h : Head) : Nat :=
  match h with
  | .bare _ => 0
  | .byte _ => 1
  | .word _ => 2

/-- Opcodes 0x00 to 0x3F: `y` is bits 5..3, `z` bits 2..0 (R68 formats I, X, P, P3, D, D2, I3). -/
def decodeBlock0 (y z : Nat) : Head :=
  match z with
  | 0 =>
    match y with
    | 0 => .bare .nop
    | 1 => .bare .alias08
    | 2 => .bare .alias10
    | 3 => .bare .alias18
    | 4 => .bare .alias20
    | 5 => .bare .alias28
    | 6 => .bare .alias30
    | _ => .bare .alias38
  | 1 => if y % 2 = 0 then .word (Instr.lxi (.ofField (y / 2))) else .bare (.dad (.ofField (y / 2)))
  | 2 =>
    match y with
    | 0 => .bare (.stax .bc)
    | 1 => .bare (.ldax .bc)
    | 2 => .bare (.stax .de)
    | 3 => .bare (.ldax .de)
    | 4 => .word .shld
    | 5 => .word .lhld
    | 6 => .word .sta
    | _ => .word .lda
  | 3 => if y % 2 = 0 then .bare (.inx (.ofField (y / 2))) else .bare (.dcx (.ofField (y / 2)))
  | 4 => .bare (.inr (.ofField y))
  | 5 => .bare (.dcr (.ofField y))
  | 6 => .byte (Instr.mvi (.ofField y))
  | _ =>
    match y with
    | 0 => .bare .rlc
    | 1 => .bare .rrc
    | 2 => .bare .ral
    | 3 => .bare .rar
    | 4 => .bare .daa
    | 5 => .bare .cma
    | 6 => .bare .stc
    | _ => .bare .cmc

/-- Opcodes 0xC0 to 0xFF (R68 formats S, C, A2, I2, I; R74). -/
def decodeBlock3 (y z : Nat) : Head :=
  match z with
  | 0 => .bare (.rcc (.ofField y))
  | 1 =>
    match y with
    | 1 => .bare .ret
    | 3 => .bare .aliasD9
    | 5 => .bare .pchl
    | 7 => .bare .sphl
    | _ => .bare (.pop (.ofField (y / 2)))
  | 2 => .word (Instr.jcc (.ofField y))
  | 3 =>
    match y with
    | 0 => .word .jmp
    | 1 => .bare .aliasCB
    | 2 => .byte .out
    | 3 => .byte .inp
    | 4 => .bare .xthl
    | 5 => .bare .xchg
    | 6 => .bare .di
    | _ => .bare .ei
  | 4 => .word (Instr.ccc (.ofField y))
  | 5 =>
    match y with
    | 1 => .word .call
    | 3 => .bare .aliasDD
    | 5 => .bare .aliasED
    | 7 => .bare .aliasFD
    | _ => .bare (.push (.ofField (y / 2)))
  | 6 => .byte (Instr.aluImm (.ofField y))
  | _ => .bare (.rst y)

/-- The opcode byte decides the instruction's shape (R67); every byte has one (R79). -/
def decodeOpcode (op : Byte) : Head :=
  let y := op.field 3 3
  let z := op.field 0 3
  match op.field 6 2 with
  | 0 => decodeBlock0 y z
  | 1 => .bare (.mov (.ofField y) (.ofField z))
  | 2 => .bare (.alu (.ofField y) (.ofField z))
  | _ => decodeBlock3 y z

/-- Why a list of bytes holds no whole instruction. -/
inductive DecodeError where
  /-- No byte at all. -/
  | noOpcode
  /-- The operand bytes that the opcode asks for are not all there. -/
  | missingOperand (op : Byte)
deriving DecidableEq, Repr

/-- The first instruction of a list of bytes and the bytes after it (R75: an operand word is low byte first). -/
def decode (bytes : List Byte) : Except DecodeError (Instr × List Byte) :=
  match bytes with
  | [] => .error .noOpcode
  | op :: rest =>
    match decodeOpcode op, rest with
    | .bare i, rest => .ok (i, rest)
    | .byte k, v :: rest => .ok (k v, rest)
    | .word k, lo :: hi :: rest => .ok (k (Word.join hi lo), rest)
    | .byte _, [] => .error (.missingOperand op)
    | .word _, [] => .error (.missingOperand op)
    | .word _, [_] => .error (.missingOperand op)

/-- The three bytes of a table word: the first byte is bits 7..0, the next 15..8, the last 23..16; the bits from
`nbits` up are 0. -/
def tableBytes (nbits w : Nat) : List Byte :=
  let v := w % 2 ^ nbits
  [BitVec.ofNat 8 v, BitVec.ofNat 8 (v >>> 8), BitVec.ofNat 8 (v >>> 16)]

/-- The instruction the decoder reads from a table word. -/
def decodeTableWord (nbits w : Nat) : Option Instr :=
  match decode (tableBytes nbits w) with
  | .ok (i, _) => some i
  | .error _ => none

/-! ### The encoder -/

/-- The bytes of an instruction: its opcode in the map of R76, then its operand bytes, a word low byte first (R75). -/
def encode (i : Instr) : List Byte :=
  match i with
  | .nop => [0x00#8]
  | .lxiB d16 => [0x01#8, Word.low d16, Word.high d16]
  | .staxB => [0x02#8]
  | .inxB => [0x03#8]
  | .inrB => [0x04#8]
  | .dcrB => [0x05#8]
  | .mviB d8 => [0x06#8, d8]
  | .rlc => [0x07#8]
  | .alias08 => [0x08#8]
  | .dadB => [0x09#8]
  | .ldaxB => [0x0A#8]
  | .dcxB => [0x0B#8]
  | .inrC => [0x0C#8]
  | .dcrC => [0x0D#8]
  | .mviC d8 => [0x0E#8, d8]
  | .rrc => [0x0F#8]
  | .alias10 => [0x10#8]
  | .lxiD d16 => [0x11#8, Word.low d16, Word.high d16]
  | .staxD => [0x12#8]
  | .inxD => [0x13#8]
  | .inrD => [0x14#8]
  | .dcrD => [0x15#8]
  | .mviD d8 => [0x16#8, d8]
  | .ral => [0x17#8]
  | .alias18 => [0x18#8]
  | .dadD => [0x19#8]
  | .ldaxD => [0x1A#8]
  | .dcxD => [0x1B#8]
  | .inrE => [0x1C#8]
  | .dcrE => [0x1D#8]
  | .mviE d8 => [0x1E#8, d8]
  | .rar => [0x1F#8]
  | .alias20 => [0x20#8]
  | .lxiH d16 => [0x21#8, Word.low d16, Word.high d16]
  | .shld a16 => [0x22#8, Word.low a16, Word.high a16]
  | .inxH => [0x23#8]
  | .inrH => [0x24#8]
  | .dcrH => [0x25#8]
  | .mviH d8 => [0x26#8, d8]
  | .daa => [0x27#8]
  | .alias28 => [0x28#8]
  | .dadH => [0x29#8]
  | .lhld a16 => [0x2A#8, Word.low a16, Word.high a16]
  | .dcxH => [0x2B#8]
  | .inrL => [0x2C#8]
  | .dcrL => [0x2D#8]
  | .mviL d8 => [0x2E#8, d8]
  | .cma => [0x2F#8]
  | .alias30 => [0x30#8]
  | .lxiSp d16 => [0x31#8, Word.low d16, Word.high d16]
  | .sta a16 => [0x32#8, Word.low a16, Word.high a16]
  | .inxSp => [0x33#8]
  | .inrM => [0x34#8]
  | .dcrM => [0x35#8]
  | .mviM d8 => [0x36#8, d8]
  | .stc => [0x37#8]
  | .alias38 => [0x38#8]
  | .dadSp => [0x39#8]
  | .lda a16 => [0x3A#8, Word.low a16, Word.high a16]
  | .dcxSp => [0x3B#8]
  | .inrA => [0x3C#8]
  | .dcrA => [0x3D#8]
  | .mviA d8 => [0x3E#8, d8]
  | .cmc => [0x3F#8]
  | .movBB => [0x40#8]
  | .movBC => [0x41#8]
  | .movBD => [0x42#8]
  | .movBE => [0x43#8]
  | .movBH => [0x44#8]
  | .movBL => [0x45#8]
  | .movBM => [0x46#8]
  | .movBA => [0x47#8]
  | .movCB => [0x48#8]
  | .movCC => [0x49#8]
  | .movCD => [0x4A#8]
  | .movCE => [0x4B#8]
  | .movCH => [0x4C#8]
  | .movCL => [0x4D#8]
  | .movCM => [0x4E#8]
  | .movCA => [0x4F#8]
  | .movDB => [0x50#8]
  | .movDC => [0x51#8]
  | .movDD => [0x52#8]
  | .movDE => [0x53#8]
  | .movDH => [0x54#8]
  | .movDL => [0x55#8]
  | .movDM => [0x56#8]
  | .movDA => [0x57#8]
  | .movEB => [0x58#8]
  | .movEC => [0x59#8]
  | .movED => [0x5A#8]
  | .movEE => [0x5B#8]
  | .movEH => [0x5C#8]
  | .movEL => [0x5D#8]
  | .movEM => [0x5E#8]
  | .movEA => [0x5F#8]
  | .movHB => [0x60#8]
  | .movHC => [0x61#8]
  | .movHD => [0x62#8]
  | .movHE => [0x63#8]
  | .movHH => [0x64#8]
  | .movHL => [0x65#8]
  | .movHM => [0x66#8]
  | .movHA => [0x67#8]
  | .movLB => [0x68#8]
  | .movLC => [0x69#8]
  | .movLD => [0x6A#8]
  | .movLE => [0x6B#8]
  | .movLH => [0x6C#8]
  | .movLL => [0x6D#8]
  | .movLM => [0x6E#8]
  | .movLA => [0x6F#8]
  | .movMB => [0x70#8]
  | .movMC => [0x71#8]
  | .movMD => [0x72#8]
  | .movME => [0x73#8]
  | .movMH => [0x74#8]
  | .movML => [0x75#8]
  | .hlt => [0x76#8]
  | .movMA => [0x77#8]
  | .movAB => [0x78#8]
  | .movAC => [0x79#8]
  | .movAD => [0x7A#8]
  | .movAE => [0x7B#8]
  | .movAH => [0x7C#8]
  | .movAL => [0x7D#8]
  | .movAM => [0x7E#8]
  | .movAA => [0x7F#8]
  | .addB => [0x80#8]
  | .addC => [0x81#8]
  | .addD => [0x82#8]
  | .addE => [0x83#8]
  | .addH => [0x84#8]
  | .addL => [0x85#8]
  | .addM => [0x86#8]
  | .addA => [0x87#8]
  | .adcB => [0x88#8]
  | .adcC => [0x89#8]
  | .adcD => [0x8A#8]
  | .adcE => [0x8B#8]
  | .adcH => [0x8C#8]
  | .adcL => [0x8D#8]
  | .adcM => [0x8E#8]
  | .adcA => [0x8F#8]
  | .subB => [0x90#8]
  | .subC => [0x91#8]
  | .subD => [0x92#8]
  | .subE => [0x93#8]
  | .subH => [0x94#8]
  | .subL => [0x95#8]
  | .subM => [0x96#8]
  | .subA => [0x97#8]
  | .sbbB => [0x98#8]
  | .sbbC => [0x99#8]
  | .sbbD => [0x9A#8]
  | .sbbE => [0x9B#8]
  | .sbbH => [0x9C#8]
  | .sbbL => [0x9D#8]
  | .sbbM => [0x9E#8]
  | .sbbA => [0x9F#8]
  | .anaB => [0xA0#8]
  | .anaC => [0xA1#8]
  | .anaD => [0xA2#8]
  | .anaE => [0xA3#8]
  | .anaH => [0xA4#8]
  | .anaL => [0xA5#8]
  | .anaM => [0xA6#8]
  | .anaA => [0xA7#8]
  | .xraB => [0xA8#8]
  | .xraC => [0xA9#8]
  | .xraD => [0xAA#8]
  | .xraE => [0xAB#8]
  | .xraH => [0xAC#8]
  | .xraL => [0xAD#8]
  | .xraM => [0xAE#8]
  | .xraA => [0xAF#8]
  | .oraB => [0xB0#8]
  | .oraC => [0xB1#8]
  | .oraD => [0xB2#8]
  | .oraE => [0xB3#8]
  | .oraH => [0xB4#8]
  | .oraL => [0xB5#8]
  | .oraM => [0xB6#8]
  | .oraA => [0xB7#8]
  | .cmpB => [0xB8#8]
  | .cmpC => [0xB9#8]
  | .cmpD => [0xBA#8]
  | .cmpE => [0xBB#8]
  | .cmpH => [0xBC#8]
  | .cmpL => [0xBD#8]
  | .cmpM => [0xBE#8]
  | .cmpA => [0xBF#8]
  | .rnz => [0xC0#8]
  | .popB => [0xC1#8]
  | .jnz a16 => [0xC2#8, Word.low a16, Word.high a16]
  | .jmp a16 => [0xC3#8, Word.low a16, Word.high a16]
  | .cnz a16 => [0xC4#8, Word.low a16, Word.high a16]
  | .pushB => [0xC5#8]
  | .adi d8 => [0xC6#8, d8]
  | .rst0 => [0xC7#8]
  | .rz => [0xC8#8]
  | .ret => [0xC9#8]
  | .jz a16 => [0xCA#8, Word.low a16, Word.high a16]
  | .aliasCB => [0xCB#8]
  | .cz a16 => [0xCC#8, Word.low a16, Word.high a16]
  | .call a16 => [0xCD#8, Word.low a16, Word.high a16]
  | .aci d8 => [0xCE#8, d8]
  | .rst1 => [0xCF#8]
  | .rnc => [0xD0#8]
  | .popD => [0xD1#8]
  | .jnc a16 => [0xD2#8, Word.low a16, Word.high a16]
  | .out p8 => [0xD3#8, p8]
  | .cnc a16 => [0xD4#8, Word.low a16, Word.high a16]
  | .pushD => [0xD5#8]
  | .sui d8 => [0xD6#8, d8]
  | .rst2 => [0xD7#8]
  | .rc => [0xD8#8]
  | .aliasD9 => [0xD9#8]
  | .jc a16 => [0xDA#8, Word.low a16, Word.high a16]
  | .inp p8 => [0xDB#8, p8]
  | .cc a16 => [0xDC#8, Word.low a16, Word.high a16]
  | .aliasDD => [0xDD#8]
  | .sbi d8 => [0xDE#8, d8]
  | .rst3 => [0xDF#8]
  | .rpo => [0xE0#8]
  | .popH => [0xE1#8]
  | .jpo a16 => [0xE2#8, Word.low a16, Word.high a16]
  | .xthl => [0xE3#8]
  | .cpo a16 => [0xE4#8, Word.low a16, Word.high a16]
  | .pushH => [0xE5#8]
  | .ani d8 => [0xE6#8, d8]
  | .rst4 => [0xE7#8]
  | .rpe => [0xE8#8]
  | .pchl => [0xE9#8]
  | .jpe a16 => [0xEA#8, Word.low a16, Word.high a16]
  | .xchg => [0xEB#8]
  | .cpe a16 => [0xEC#8, Word.low a16, Word.high a16]
  | .aliasED => [0xED#8]
  | .xri d8 => [0xEE#8, d8]
  | .rst5 => [0xEF#8]
  | .rp => [0xF0#8]
  | .popPsw => [0xF1#8]
  | .jp a16 => [0xF2#8, Word.low a16, Word.high a16]
  | .di => [0xF3#8]
  | .cp a16 => [0xF4#8, Word.low a16, Word.high a16]
  | .pushPsw => [0xF5#8]
  | .ori d8 => [0xF6#8, d8]
  | .rst6 => [0xF7#8]
  | .rm => [0xF8#8]
  | .sphl => [0xF9#8]
  | .jm a16 => [0xFA#8, Word.low a16, Word.high a16]
  | .ei => [0xFB#8]
  | .cm a16 => [0xFC#8, Word.low a16, Word.high a16]
  | .aliasFD => [0xFD#8]
  | .cpi d8 => [0xFE#8, d8]
  | .rst7 => [0xFF#8]

/-- The opcode byte of an instruction (R76). -/
def Instr.opcode (i : Instr) : Byte := (encode i).headD 0

/-- The length of an instruction in bytes (R67). -/
def Instr.length (i : Instr) : Nat := (encode i).length

end Sys2Proof
end

