-- ==== Sys2Proof/Machine/Memory.lean ====
section
/-! DEFINITION. A sparse file of bytes: the memory array (spec/20_memory.md R43, R45) and the port latches
(spec/10_state.md R32). -/

namespace Sys2Proof.Machine

/-- What an unlisted index reads as: the reset value of every memory byte and latch (R42, R45). -/
def Memory.unlisted : Byte := 0x00#8

/-- The byte at index `i`. -/
def Memory.read (m : Memory) (i : Nat) : Byte :=
  match m with
  | [] => Memory.unlisted
  | (k, v) :: rest => if k = i then v else Memory.read rest i

/-- Put a byte in front, unless it is what an unlisted index reads as. -/
def Memory.cons (i : Nat) (v : Byte) (m : Memory) : Memory :=
  if v = Memory.unlisted then m else (i, v) :: m

/-- Store `v` at index `i`, keeping the canonical form. -/
def Memory.write (m : Memory) (i : Nat) (v : Byte) : Memory :=
  match m with
  | [] => Memory.cons i v []
  | (k, b) :: rest =>
    if i < k then Memory.cons i v ((k, b) :: rest)
    else if i = k then Memory.cons i v rest
    else (k, b) :: Memory.write rest i v

/-- Indexes strictly rising from `lo`, and no listed byte that equals an unlisted one. -/
def Memory.wfFrom (lo : Nat) (m : Memory) : Bool :=
  match m with
  | [] => true
  | (k, v) :: rest => decide (lo ≤ k) && decide (v ≠ Memory.unlisted) && Memory.wfFrom (k + 1) rest

/-- The canonical form. -/
def Memory.wf (m : Memory) : Bool := Memory.wfFrom 0 m

/-- Every listed index is below `bound`. -/
def Memory.below (bound : Nat) (m : Memory) : Bool := m.all fun cell => decide (cell.1 < bound)

/-- Store bytes at consecutive indexes. -/
def Memory.writeAll (m : Memory) (i : Nat) (bytes : List Byte) : Memory :=
  match bytes with
  | [] => m
  | v :: rest => Memory.writeAll (m.write i v) (i + 1) rest

end Sys2Proof.Machine
end

