-- ==== Sys2Proof/Machine/Ops.lean ====
section
/-! DEFINITION. The shared operations over memory, the stack, faults and interrupts: the index function and the
write-protect gate (spec/20_memory.md R44-R53), the stack primitives (spec/41_stack_exchange.md R95, R96), taking a
fault (spec/60_exceptions.md R151-R154), interrupt entry (R158) and the return from it (R162). -/

namespace Sys2Proof.Machine

/-- What an instruction's pseudocode came to: it ran to its end, or an access at address `a` was out of range, in
which case the state is the one at that access (R154: what was done before stands, nothing after it happens). -/
inductive Access where
  | done (s : State)
  | outOfRange (s : State) (a : Addr)
deriving DecidableEq, Repr

/-- Go on with the state, unless an access was out of range. -/
def Access.andThen (r : Access) (f : State → Access) : Access :=
  match r with
  | .done s => f s
  | .outOfRange s a => .outOfRange s a

/-- Taking a fault: the record is set and the run has ended; nothing is vectored (R38, R151, R161). -/
def State.takeFault (s : State) (kind : FaultKind) (addr : Addr) (byte : Option Byte) : State :=
  { s with fault := some { kind := kind, addr := addr, byte := byte } }

/-- The state an access leaves, an out-of-range access having taken its fault (R154); `byte` is what the record
holds (R151). -/
def Access.settle (r : Access) (byte : Option Byte) : State :=
  match r with
  | .done s => s
  | .outOfRange s a => s.takeFault .outOfRange a byte

/-! ### Memory -/

/-- `idx(a)` of R44; `none` is `raise OutOfRange(a)`. Where R178's remark on a first push under `wrap` says otherwise
than R44, the model follows R44 (DESIGN CHOICE, log entry 17). -/
def indexOf (c : Config) (a : Addr) : Option Nat :=
  if a.toNat < c.memSize then some a.toNat
  else
    match c.oobPolicy with
    | .fault => none
    | .wrap => some (a.toNat % c.memSize)

/-- `MemRead(a, 1)` of R45, or `none` when it raises OutOfRange. -/
def State.peek (s : State) (a : Addr) : Option Byte := (indexOf s.cfg a).map s.mem.read

/-- Read a byte and go on with it (R45). -/
def State.loadByte (s : State) (a : Addr) (k : Byte → Access) : Access :=
  match s.peek a with
  | some v => k v
  | none => .outOfRange s a

/-- Read a word and go on with it: the byte at `a` is its low byte, the byte at `a + 1` its high byte (R52; the order,
log entry 7). -/
def State.loadWord (s : State) (a : Addr) (k : Word → Access) : Access :=
  s.loadByte a fun lo => s.loadByte (a + 1) fun hi => k (Word.join hi lo)

/-- `emit ProtectedWrite(a, v)` (R157). -/
def State.emit (s : State) (a : Addr) (v : Byte) : State :=
  { s with events := s.events ++ [{ addr := a, byte := v }] }

/-- The gate at index `i` for a write that named address `a`: the protected test first (R46). -/
def State.gate (s : State) (i : Nat) (a : Addr) (v : Byte) : State :=
  if i < s.cfg.protectLimit then s.emit a v
  else if s.cfg.videoBase ≤ i ∧ i < s.cfg.videoLimit then { s with mem := s.mem.write i v, dirty := true }
  else { s with mem := s.mem.write i v }

/-- `MemWrite(a, 1, v)` (R46). -/
def State.storeByte (s : State) (a : Addr) (v : Byte) : Access :=
  match indexOf s.cfg a with
  | some i => .done (s.gate i a v)
  | none => .outOfRange s a

/-- `MemWrite(a, 2, v)`: the low byte at `a`, then the high byte at `a + 1` modulo 2^16 (R53). -/
def State.storeWord (s : State) (a : Addr) (v : Word) : Access :=
  (s.storeByte a v.low).andThen fun t => t.storeByte (a + 1) v.high

/-- Store a byte past the gate, as the program load does (R65); out of range nothing is stored. -/
def State.poke (s : State) (a : Addr) (v : Byte) : State :=
  match indexOf s.cfg a with
  | some i => { s with mem := s.mem.write i v }
  | none => s

/-! ### The stack -/

/-- `Push16(v)` of R95. -/
def State.push16 (s : State) (v : Word) : Access :=
  { s with sp := s.sp - 2 }.storeWord (s.sp - 2) v

/-- `Pop16()` of R96, going on with the value and the state whose SP has moved. -/
def State.pop16 (s : State) (k : Word → State → Access) : Access :=
  s.loadWord s.sp fun v => k v { s with sp := s.sp + 2 }

/-- Push PC and go to `target`: what CALL, RST and interrupt delivery share (R142, R143, R158). -/
def State.enter (s : State) (target : Addr) : Access :=
  (s.push16 s.pc).andThen fun t => .done { t with pc := target }

/-- Pop PC: RET, and so the return from an interrupt handler (R138, R162). -/
def State.leave (s : State) : Access :=
  s.pop16 fun v t => .done { t with pc := v }

/-- The entry point of a vector, `8 × v` (R75, R143, R158). -/
def entryPoint (v : Nat) : Addr := BitVec.ofNat 16 (8 * v)

/-! ### Interrupts -/

/-- What `raise` answers (R158): `Lost`, `Delivered`, or the end of the run by a fault. -/
inductive Delivery where
  | lost (s : State)
  | delivered (s : State)
  | faulted (s : State)
deriving DecidableEq, Repr

/-- `raise(v)` of R158. -/
def State.raise (s : State) (v : Nat) : Delivery :=
  if v > 7 then .faulted (s.takeFault .invalidInternalSelector s.pc (some (BitVec.ofNat 8 v)))
  else if s.ime then
    match s.enter (entryPoint v) with
    | .done t => .delivered { t with ime := false }
    | .outOfRange t a => .faulted (t.takeFault .outOfRange a none)
  else .lost s

/-! ### Running an instruction -/

/-- Move PC past `n` bytes, modulo 2^16 (R24). -/
def State.advance (s : State) (n : Nat) : State := { s with pc := s.pc + BitVec.ofNat 16 n }

/-- Run an instruction's pseudocode on the state whose PC has moved past the instruction's bytes (R24, R150); an
out-of-range access takes its fault with the instruction's opcode (R151). -/
def perform (i : Instr) (body : State → Access) (s : State) : Outcome :=
  .next ((body (s.advance i.length)).settle (some i.opcode))

/-- UnimplementedOpcode: PC one past the opcode and the fault record, nothing else (R152). -/
def performUnimplemented (i : Instr) (s : State) : Outcome :=
  .next ((s.advance 1).takeFault .unimplementedOpcode s.pc (some i.opcode))

end Sys2Proof.Machine
end

