-- ==== Sys2Proof/Machine/Operands.lean ====
section
/-! DEFINITION. The operand forms: registers and pairs (spec/10_state.md R20-R22), slots, pairs and conditions
(spec/30_encoding.md R69-R71, spec/43_control_transfer.md R135). -/

namespace Sys2Proof.Machine

/-- Read a register. -/
def Regs.get (x : Regs) (r : Reg) : Byte :=
  match r with
  | .b => x.b
  | .c => x.c
  | .d => x.d
  | .e => x.e
  | .h => x.h
  | .l => x.l
  | .a => x.a

/-- Write a register. -/
def Regs.set (x : Regs) (r : Reg) (v : Byte) : Regs :=
  match r with
  | .b => { x with b := v }
  | .c => { x with c := v }
  | .d => { x with d := v }
  | .e => { x with e := v }
  | .h => { x with h := v }
  | .l => { x with l := v }
  | .a => { x with a := v }

/-- `BC = B : C` (R21). -/
def Regs.bc (x : Regs) : Word := Word.join x.b x.c

/-- `DE = D : E` (R21). -/
def Regs.de (x : Regs) : Word := Word.join x.d x.e

/-- `HL = H : L` (R21). -/
def Regs.hl (x : Regs) : Word := Word.join x.h x.l

/-- `BC <- v`: B gets the high byte, C the low (R12, R21). -/
def Regs.setBc (x : Regs) (v : Word) : Regs := { x with b := v.high, c := v.low }

/-- `DE <- v`. -/
def Regs.setDe (x : Regs) (v : Word) : Regs := { x with d := v.high, e := v.low }

/-- `HL <- v`. -/
def Regs.setHl (x : Regs) (v : Word) : Regs := { x with h := v.high, l := v.low }

/-- Write a register of the state. -/
def State.setReg (s : State) (r : Reg) (v : Byte) : State := { s with regs := s.regs.set r v }

/-- `rp[rr]` (R70). -/
def State.pair (s : State) (rr : RegPair) : Word :=
  match rr with
  | .bc => s.regs.bc
  | .de => s.regs.de
  | .hl => s.regs.hl
  | .sp => s.sp

/-- `rp[rr] <- v` (R70). -/
def State.setPair (s : State) (rr : RegPair) (v : Word) : State :=
  match rr with
  | .bc => { s with regs := s.regs.setBc v }
  | .de => { s with regs := s.regs.setDe v }
  | .hl => { s with regs := s.regs.setHl v }
  | .sp => { s with sp := v }

/-- `rps[rr]`: a pair, or `A : flagsbyte()` (R71). -/
def State.stackPair (s : State) (rr : StackPair) : Word :=
  match rr with
  | .bc => s.regs.bc
  | .de => s.regs.de
  | .hl => s.regs.hl
  | .psw => Word.join s.regs.a s.flags.byte

/-- `rps[rr] <- v`: PSW writes A and unpacks all five flags (R100, R101). -/
def State.setStackPair (s : State) (rr : StackPair) (v : Word) : State :=
  match rr with
  | .bc => { s with regs := s.regs.setBc v }
  | .de => { s with regs := s.regs.setDe v }
  | .hl => { s with regs := s.regs.setHl v }
  | .psw => { s with regs := s.regs.set .a v.high, flags := Flags.ofByte v.low }

/-- The address of LDAX and STAX (R89, R90). -/
def State.indirect (s : State) (r : IndirectPair) : Addr :=
  match r with
  | .bc => s.regs.bc
  | .de => s.regs.de

/-- Read `reg8[x]` and go on with it; slot 6 is `MemRead(HL, 1)` (R69). -/
def State.readSlot (s : State) (x : Slot) (k : Byte → Access) : Access :=
  match x with
  | .reg r => k (s.regs.get r)
  | .mem => s.loadByte s.regs.hl k

/-- `reg8[x] <- v`; slot 6 is `MemWrite(HL, 1, v)`, through the gate (R69). -/
def State.writeSlot (s : State) (x : Slot) (v : Byte) : Access :=
  match x with
  | .reg r => .done (s.setReg r v)
  | .mem => s.storeByte s.regs.hl v

/-- `cond(ccc)` (R135). -/
def Flags.cond (f : Flags) (cc : Cond) : Bool :=
  match cc with
  | .nz => !f.z
  | .z => f.z
  | .nc => !f.cy
  | .c => f.cy
  | .po => !f.p
  | .pe => f.p
  | .p => !f.s
  | .m => f.s

end Sys2Proof.Machine
end

