-- ==== Sys2Proof/Machine/Arith.lean ====
section
/-! DEFINITION. Pair arithmetic, the 8-bit ALU, rotates, carry operations, INR and DCR (spec/42_arith_logic.md R105-R134). -/

namespace Sys2Proof.Machine

/-- `rp[rr] <- rp[rr] + 1` modulo 2^16 (R106). -/
def incrementPair (rr : RegPair) (s : State) : Access := .done (s.setPair rr (s.pair rr + 1))

/-- `rp[rr] <- rp[rr] - 1` modulo 2^16 (R107). -/
def decrementPair (rr : RegPair) (s : State) : Access := .done (s.setPair rr (s.pair rr - 1))

/-- DAD: HL and CY from the 17-bit sum (R108). -/
def addToHl (rr : RegPair) (s : State) : Access :=
  let t := dadWide s.regs.hl (s.pair rr)
  .done { s with regs := s.regs.setHl (t.setWidth 16), flags := { s.flags with cy := t.getLsbD 16 } }

/-- `ALU(ooo, v)` (R109): CMP stores nothing. -/
def alu (op : AluOp) (v : Byte) (s : State) : State :=
  let r := aluResult op s.regs.a v s.flags.cy
  { s with
    regs := if op = .cmp then s.regs else s.regs.set .a r
    flags := aluFlags s.cfg.subCySense op s.regs.a v s.flags }

/-- `ALU(ooo, reg8[x])` (R110-R117). -/
def aluSlot (op : AluOp) (x : Slot) (s : State) : Access := s.readSlot x fun v => .done (alu op v s)

/-- `ALU(ooo, d8)` (R118-R125). -/
def aluImmediate (op : AluOp) (v : Byte) (s : State) : Access := .done (alu op v s)

/-- A rotate: A and CY only (R126-R129). -/
def rotateA (k : Rotate) (s : State) : Access :=
  .done { s with
    regs := s.regs.set .a (k.result s.regs.a s.flags.cy)
    flags := { s.flags with cy := k.out s.regs.a } }

/-- CMA (R130). -/
def complementA (s : State) : Access := .done (s.setReg .a (~~~s.regs.a))

/-- CMC (R131). -/
def complementCarry (s : State) : Access := .done { s with flags := { s.flags with cy := !s.flags.cy } }

/-- STC (R132). -/
def setCarry (s : State) : Access := .done { s with flags := { s.flags with cy := true } }

/-- `reg8[d] <- r; szp(r)` (R133, R134): the flags are written even where the gate drops the byte (R48). -/
def writeSlotSzp (d : Slot) (r : Byte) (s : State) : Access :=
  (s.writeSlot d r).andThen fun t => .done { t with flags := t.flags.szp r }

/-- INR (R133). -/
def incrementSlot (d : Slot) (s : State) : Access := s.readSlot d fun v => writeSlotSzp d (v + 1) s

/-- DCR (R134). -/
def decrementSlot (d : Slot) (s : State) : Access := s.readSlot d fun v => writeSlotSzp d (v - 1) s

/-! ### The meanings -/

/-- INX B (R106). -/
def execInxB (s : State) : Outcome := perform .inxB (incrementPair .bc) s

/-- INR B (R133). -/
def execInrB (s : State) : Outcome := perform .inrB (incrementSlot (.reg .b)) s

/-- DCR B (R134). -/
def execDcrB (s : State) : Outcome := perform .dcrB (decrementSlot (.reg .b)) s

/-- RLC (R126). -/
def execRlc (s : State) : Outcome := perform .rlc (rotateA .rlc) s

/-- DAD B (R108). -/
def execDadB (s : State) : Outcome := perform .dadB (addToHl .bc) s

/-- DCX B (R107). -/
def execDcxB (s : State) : Outcome := perform .dcxB (decrementPair .bc) s

/-- INR C (R133). -/
def execInrC (s : State) : Outcome := perform .inrC (incrementSlot (.reg .c)) s

/-- DCR C (R134). -/
def execDcrC (s : State) : Outcome := perform .dcrC (decrementSlot (.reg .c)) s

/-- RRC (R127). -/
def execRrc (s : State) : Outcome := perform .rrc (rotateA .rrc) s

/-- INX D (R106). -/
def execInxD (s : State) : Outcome := perform .inxD (incrementPair .de) s

/-- INR D (R133). -/
def execInrD (s : State) : Outcome := perform .inrD (incrementSlot (.reg .d)) s

/-- DCR D (R134). -/
def execDcrD (s : State) : Outcome := perform .dcrD (decrementSlot (.reg .d)) s

/-- RAL (R128). -/
def execRal (s : State) : Outcome := perform .ral (rotateA .ral) s

/-- DAD D (R108). -/
def execDadD (s : State) : Outcome := perform .dadD (addToHl .de) s

/-- DCX D (R107). -/
def execDcxD (s : State) : Outcome := perform .dcxD (decrementPair .de) s

/-- INR E (R133). -/
def execInrE (s : State) : Outcome := perform .inrE (incrementSlot (.reg .e)) s

/-- DCR E (R134). -/
def execDcrE (s : State) : Outcome := perform .dcrE (decrementSlot (.reg .e)) s

/-- RAR (R129). -/
def execRar (s : State) : Outcome := perform .rar (rotateA .rar) s

/-- INX H (R106). -/
def execInxH (s : State) : Outcome := perform .inxH (incrementPair .hl) s

/-- INR H (R133). -/
def execInrH (s : State) : Outcome := perform .inrH (incrementSlot (.reg .h)) s

/-- DCR H (R134). -/
def execDcrH (s : State) : Outcome := perform .dcrH (decrementSlot (.reg .h)) s

/-- DAD H (R108). -/
def execDadH (s : State) : Outcome := perform .dadH (addToHl .hl) s

/-- DCX H (R107). -/
def execDcxH (s : State) : Outcome := perform .dcxH (decrementPair .hl) s

/-- INR L (R133). -/
def execInrL (s : State) : Outcome := perform .inrL (incrementSlot (.reg .l)) s

/-- DCR L (R134). -/
def execDcrL (s : State) : Outcome := perform .dcrL (decrementSlot (.reg .l)) s

/-- CMA (R130). -/
def execCma (s : State) : Outcome := perform .cma complementA s

/-- INX SP (R106). -/
def execInxSp (s : State) : Outcome := perform .inxSp (incrementPair .sp) s

/-- INR M (R133). -/
def execInrM (s : State) : Outcome := perform .inrM (incrementSlot .mem) s

/-- DCR M (R134). -/
def execDcrM (s : State) : Outcome := perform .dcrM (decrementSlot .mem) s

/-- STC (R132). -/
def execStc (s : State) : Outcome := perform .stc setCarry s

/-- DAD SP (R108). -/
def execDadSp (s : State) : Outcome := perform .dadSp (addToHl .sp) s

/-- DCX SP (R107). -/
def execDcxSp (s : State) : Outcome := perform .dcxSp (decrementPair .sp) s

/-- INR A (R133). -/
def execInrA (s : State) : Outcome := perform .inrA (incrementSlot (.reg .a)) s

/-- DCR A (R134). -/
def execDcrA (s : State) : Outcome := perform .dcrA (decrementSlot (.reg .a)) s

/-- CMC (R131). -/
def execCmc (s : State) : Outcome := perform .cmc complementCarry s

/-- ADD B (R110). -/
def execAddB (s : State) : Outcome := perform .addB (aluSlot .add (.reg .b)) s

/-- ADD C (R110). -/
def execAddC (s : State) : Outcome := perform .addC (aluSlot .add (.reg .c)) s

/-- ADD D (R110). -/
def execAddD (s : State) : Outcome := perform .addD (aluSlot .add (.reg .d)) s

/-- ADD E (R110). -/
def execAddE (s : State) : Outcome := perform .addE (aluSlot .add (.reg .e)) s

/-- ADD H (R110). -/
def execAddH (s : State) : Outcome := perform .addH (aluSlot .add (.reg .h)) s

/-- ADD L (R110). -/
def execAddL (s : State) : Outcome := perform .addL (aluSlot .add (.reg .l)) s

/-- ADD M (R110). -/
def execAddM (s : State) : Outcome := perform .addM (aluSlot .add .mem) s

/-- ADD A (R110). -/
def execAddA (s : State) : Outcome := perform .addA (aluSlot .add (.reg .a)) s

/-- ADC B (R111). -/
def execAdcB (s : State) : Outcome := perform .adcB (aluSlot .adc (.reg .b)) s

/-- ADC C (R111). -/
def execAdcC (s : State) : Outcome := perform .adcC (aluSlot .adc (.reg .c)) s

/-- ADC D (R111). -/
def execAdcD (s : State) : Outcome := perform .adcD (aluSlot .adc (.reg .d)) s

/-- ADC E (R111). -/
def execAdcE (s : State) : Outcome := perform .adcE (aluSlot .adc (.reg .e)) s

/-- ADC H (R111). -/
def execAdcH (s : State) : Outcome := perform .adcH (aluSlot .adc (.reg .h)) s

/-- ADC L (R111). -/
def execAdcL (s : State) : Outcome := perform .adcL (aluSlot .adc (.reg .l)) s

/-- ADC M (R111). -/
def execAdcM (s : State) : Outcome := perform .adcM (aluSlot .adc .mem) s

/-- ADC A (R111). -/
def execAdcA (s : State) : Outcome := perform .adcA (aluSlot .adc (.reg .a)) s

/-- SUB B (R112). -/
def execSubB (s : State) : Outcome := perform .subB (aluSlot .sub (.reg .b)) s

/-- SUB C (R112). -/
def execSubC (s : State) : Outcome := perform .subC (aluSlot .sub (.reg .c)) s

/-- SUB D (R112). -/
def execSubD (s : State) : Outcome := perform .subD (aluSlot .sub (.reg .d)) s

/-- SUB E (R112). -/
def execSubE (s : State) : Outcome := perform .subE (aluSlot .sub (.reg .e)) s

/-- SUB H (R112). -/
def execSubH (s : State) : Outcome := perform .subH (aluSlot .sub (.reg .h)) s

/-- SUB L (R112). -/
def execSubL (s : State) : Outcome := perform .subL (aluSlot .sub (.reg .l)) s

/-- SUB M (R112). -/
def execSubM (s : State) : Outcome := perform .subM (aluSlot .sub .mem) s

/-- SUB A (R112). -/
def execSubA (s : State) : Outcome := perform .subA (aluSlot .sub (.reg .a)) s

/-- SBB B (R113). -/
def execSbbB (s : State) : Outcome := perform .sbbB (aluSlot .sbb (.reg .b)) s

/-- SBB C (R113). -/
def execSbbC (s : State) : Outcome := perform .sbbC (aluSlot .sbb (.reg .c)) s

/-- SBB D (R113). -/
def execSbbD (s : State) : Outcome := perform .sbbD (aluSlot .sbb (.reg .d)) s

/-- SBB E (R113). -/
def execSbbE (s : State) : Outcome := perform .sbbE (aluSlot .sbb (.reg .e)) s

/-- SBB H (R113). -/
def execSbbH (s : State) : Outcome := perform .sbbH (aluSlot .sbb (.reg .h)) s

/-- SBB L (R113). -/
def execSbbL (s : State) : Outcome := perform .sbbL (aluSlot .sbb (.reg .l)) s

/-- SBB M (R113). -/
def execSbbM (s : State) : Outcome := perform .sbbM (aluSlot .sbb .mem) s

/-- SBB A (R113). -/
def execSbbA (s : State) : Outcome := perform .sbbA (aluSlot .sbb (.reg .a)) s

/-- ANA B (R114). -/
def execAnaB (s : State) : Outcome := perform .anaB (aluSlot .ana (.reg .b)) s

/-- ANA C (R114). -/
def execAnaC (s : State) : Outcome := perform .anaC (aluSlot .ana (.reg .c)) s

/-- ANA D (R114). -/
def execAnaD (s : State) : Outcome := perform .anaD (aluSlot .ana (.reg .d)) s

/-- ANA E (R114). -/
def execAnaE (s : State) : Outcome := perform .anaE (aluSlot .ana (.reg .e)) s

/-- ANA H (R114). -/
def execAnaH (s : State) : Outcome := perform .anaH (aluSlot .ana (.reg .h)) s

/-- ANA L (R114). -/
def execAnaL (s : State) : Outcome := perform .anaL (aluSlot .ana (.reg .l)) s

/-- ANA M (R114). -/
def execAnaM (s : State) : Outcome := perform .anaM (aluSlot .ana .mem) s

/-- ANA A (R114). -/
def execAnaA (s : State) : Outcome := perform .anaA (aluSlot .ana (.reg .a)) s

/-- XRA B (R115). -/
def execXraB (s : State) : Outcome := perform .xraB (aluSlot .xra (.reg .b)) s

/-- XRA C (R115). -/
def execXraC (s : State) : Outcome := perform .xraC (aluSlot .xra (.reg .c)) s

/-- XRA D (R115). -/
def execXraD (s : State) : Outcome := perform .xraD (aluSlot .xra (.reg .d)) s

/-- XRA E (R115). -/
def execXraE (s : State) : Outcome := perform .xraE (aluSlot .xra (.reg .e)) s

/-- XRA H (R115). -/
def execXraH (s : State) : Outcome := perform .xraH (aluSlot .xra (.reg .h)) s

/-- XRA L (R115). -/
def execXraL (s : State) : Outcome := perform .xraL (aluSlot .xra (.reg .l)) s

/-- XRA M (R115). -/
def execXraM (s : State) : Outcome := perform .xraM (aluSlot .xra .mem) s

/-- XRA A (R115). -/
def execXraA (s : State) : Outcome := perform .xraA (aluSlot .xra (.reg .a)) s

/-- ORA B (R116). -/
def execOraB (s : State) : Outcome := perform .oraB (aluSlot .ora (.reg .b)) s

/-- ORA C (R116). -/
def execOraC (s : State) : Outcome := perform .oraC (aluSlot .ora (.reg .c)) s

/-- ORA D (R116). -/
def execOraD (s : State) : Outcome := perform .oraD (aluSlot .ora (.reg .d)) s

/-- ORA E (R116). -/
def execOraE (s : State) : Outcome := perform .oraE (aluSlot .ora (.reg .e)) s

/-- ORA H (R116). -/
def execOraH (s : State) : Outcome := perform .oraH (aluSlot .ora (.reg .h)) s

/-- ORA L (R116). -/
def execOraL (s : State) : Outcome := perform .oraL (aluSlot .ora (.reg .l)) s

/-- ORA M (R116). -/
def execOraM (s : State) : Outcome := perform .oraM (aluSlot .ora .mem) s

/-- ORA A (R116). -/
def execOraA (s : State) : Outcome := perform .oraA (aluSlot .ora (.reg .a)) s

/-- CMP B (R117). -/
def execCmpB (s : State) : Outcome := perform .cmpB (aluSlot .cmp (.reg .b)) s

/-- CMP C (R117). -/
def execCmpC (s : State) : Outcome := perform .cmpC (aluSlot .cmp (.reg .c)) s

/-- CMP D (R117). -/
def execCmpD (s : State) : Outcome := perform .cmpD (aluSlot .cmp (.reg .d)) s

/-- CMP E (R117). -/
def execCmpE (s : State) : Outcome := perform .cmpE (aluSlot .cmp (.reg .e)) s

/-- CMP H (R117). -/
def execCmpH (s : State) : Outcome := perform .cmpH (aluSlot .cmp (.reg .h)) s

/-- CMP L (R117). -/
def execCmpL (s : State) : Outcome := perform .cmpL (aluSlot .cmp (.reg .l)) s

/-- CMP M (R117). -/
def execCmpM (s : State) : Outcome := perform .cmpM (aluSlot .cmp .mem) s

/-- CMP A (R117). -/
def execCmpA (s : State) : Outcome := perform .cmpA (aluSlot .cmp (.reg .a)) s

/-- ADI d8 (R118). -/
def execAdi (d8 : Byte) (s : State) : Outcome := perform (.adi d8) (aluImmediate .add d8) s

/-- ACI d8 (R119). -/
def execAci (d8 : Byte) (s : State) : Outcome := perform (.aci d8) (aluImmediate .adc d8) s

/-- SUI d8 (R120). -/
def execSui (d8 : Byte) (s : State) : Outcome := perform (.sui d8) (aluImmediate .sub d8) s

/-- SBI d8 (R121). -/
def execSbi (d8 : Byte) (s : State) : Outcome := perform (.sbi d8) (aluImmediate .sbb d8) s

/-- ANI d8 (R122). -/
def execAni (d8 : Byte) (s : State) : Outcome := perform (.ani d8) (aluImmediate .ana d8) s

/-- XRI d8 (R123). -/
def execXri (d8 : Byte) (s : State) : Outcome := perform (.xri d8) (aluImmediate .xra d8) s

/-- ORI d8 (R124). -/
def execOri (d8 : Byte) (s : State) : Outcome := perform (.ori d8) (aluImmediate .ora d8) s

/-- CPI d8 (R125). -/
def execCpi (d8 : Byte) (s : State) : Outcome := perform (.cpi d8) (aluImmediate .cmp d8) s

end Sys2Proof.Machine
end

