-- ==== Sys2Proof/Machine/Control.lean ====
section
/-! DEFINITION. Return, jump, call, RST and PCHL (spec/43_control_transfer.md R136-R144). None writes a flag. -/

namespace Sys2Proof.Machine

/-- Rcc: nothing is read when the condition fails (R137). -/
def returnIf (cc : Cond) (s : State) : Access := if s.flags.cond cc then s.leave else .done s

/-- JMP (R140). -/
def jumpTo (target : Addr) (s : State) : Access := .done { s with pc := target }

/-- Jcc (R139). -/
def jumpIf (cc : Cond) (target : Addr) (s : State) : Access :=
  if s.flags.cond cc then jumpTo target s else .done s

/-- CALL: the pushed PC is the address after the instruction (R142). -/
def callTo (target : Addr) (s : State) : Access := s.enter target

/-- Ccc (R141). -/
def callIf (cc : Cond) (target : Addr) (s : State) : Access :=
  if s.flags.cond cc then callTo target s else .done s

/-- RST (R143). -/
def restart (n : Nat) (s : State) : Access := s.enter (entryPoint n)

/-- PCHL's effect where it is enabled (R144). -/
def jumpToHl (s : State) : Access := .done { s with pc := s.regs.hl }

/-! ### The meanings -/

/-- RNZ (R137). -/
def execRnz (s : State) : Outcome := perform .rnz (returnIf .nz) s

/-- JNZ a16 (R139). -/
def execJnz (a16 : Addr) (s : State) : Outcome := perform (.jnz a16) (jumpIf .nz a16) s

/-- JMP a16 (R140). -/
def execJmp (a16 : Addr) (s : State) : Outcome := perform (.jmp a16) (jumpTo a16) s

/-- CNZ a16 (R141). -/
def execCnz (a16 : Addr) (s : State) : Outcome := perform (.cnz a16) (callIf .nz a16) s

/-- RST 0 (R143). -/
def execRst0 (s : State) : Outcome := perform .rst0 (restart 0) s

/-- RZ (R137). -/
def execRz (s : State) : Outcome := perform .rz (returnIf .z) s

/-- RET (R138). -/
def execRet (s : State) : Outcome := perform .ret State.leave s

/-- JZ a16 (R139). -/
def execJz (a16 : Addr) (s : State) : Outcome := perform (.jz a16) (jumpIf .z a16) s

/-- CZ a16 (R141). -/
def execCz (a16 : Addr) (s : State) : Outcome := perform (.cz a16) (callIf .z a16) s

/-- CALL a16 (R142). -/
def execCall (a16 : Addr) (s : State) : Outcome := perform (.call a16) (callTo a16) s

/-- RST 1 (R143). -/
def execRst1 (s : State) : Outcome := perform .rst1 (restart 1) s

/-- RNC (R137). -/
def execRnc (s : State) : Outcome := perform .rnc (returnIf .nc) s

/-- JNC a16 (R139). -/
def execJnc (a16 : Addr) (s : State) : Outcome := perform (.jnc a16) (jumpIf .nc a16) s

/-- CNC a16 (R141). -/
def execCnc (a16 : Addr) (s : State) : Outcome := perform (.cnc a16) (callIf .nc a16) s

/-- RST 2 (R143). -/
def execRst2 (s : State) : Outcome := perform .rst2 (restart 2) s

/-- RC (R137). -/
def execRc (s : State) : Outcome := perform .rc (returnIf .c) s

/-- JC a16 (R139). -/
def execJc (a16 : Addr) (s : State) : Outcome := perform (.jc a16) (jumpIf .c a16) s

/-- CC a16 (R141). -/
def execCc (a16 : Addr) (s : State) : Outcome := perform (.cc a16) (callIf .c a16) s

/-- RST 3 (R143). -/
def execRst3 (s : State) : Outcome := perform .rst3 (restart 3) s

/-- RPO (R137). -/
def execRpo (s : State) : Outcome := perform .rpo (returnIf .po) s

/-- JPO a16 (R139). -/
def execJpo (a16 : Addr) (s : State) : Outcome := perform (.jpo a16) (jumpIf .po a16) s

/-- CPO a16 (R141). -/
def execCpo (a16 : Addr) (s : State) : Outcome := perform (.cpo a16) (callIf .po a16) s

/-- RST 4 (R143). -/
def execRst4 (s : State) : Outcome := perform .rst4 (restart 4) s

/-- RPE (R137). -/
def execRpe (s : State) : Outcome := perform .rpe (returnIf .pe) s

/-- PCHL: an instruction when `ENABLE_PCHL` is true, else unimplemented (R144). -/
def execPchl (s : State) : Outcome :=
  if s.cfg.enablePchl then perform .pchl jumpToHl s else performUnimplemented .pchl s

/-- JPE a16 (R139). -/
def execJpe (a16 : Addr) (s : State) : Outcome := perform (.jpe a16) (jumpIf .pe a16) s

/-- CPE a16 (R141). -/
def execCpe (a16 : Addr) (s : State) : Outcome := perform (.cpe a16) (callIf .pe a16) s

/-- RST 5 (R143). -/
def execRst5 (s : State) : Outcome := perform .rst5 (restart 5) s

/-- RP (R137). -/
def execRp (s : State) : Outcome := perform .rp (returnIf .p) s

/-- JP a16 (R139). -/
def execJp (a16 : Addr) (s : State) : Outcome := perform (.jp a16) (jumpIf .p a16) s

/-- CP a16 (R141). -/
def execCp (a16 : Addr) (s : State) : Outcome := perform (.cp a16) (callIf .p a16) s

/-- RST 6 (R143). -/
def execRst6 (s : State) : Outcome := perform .rst6 (restart 6) s

/-- RM (R137). -/
def execRm (s : State) : Outcome := perform .rm (returnIf .m) s

/-- JM a16 (R139). -/
def execJm (a16 : Addr) (s : State) : Outcome := perform (.jm a16) (jumpIf .m a16) s

/-- CM a16 (R141). -/
def execCm (a16 : Addr) (s : State) : Outcome := perform (.cm a16) (callIf .m a16) s

/-- RST 7 (R143). -/
def execRst7 (s : State) : Outcome := perform .rst7 (restart 7) s

end Sys2Proof.Machine
end

