-- ==== Sys2Proof/Machine/Stack.lean ====
section
/-! DEFINITION. Stack push and pop, and the exchanges (spec/41_stack_exchange.md R98-R104). -/

namespace Sys2Proof.Machine

/-- `Push16(rps[rr])` (R98, R99). -/
def pushPair (rr : StackPair) (s : State) : Access := s.push16 (s.stackPair rr)

/-- `rps[rr] <- Pop16()` (R100, R101). -/
def popPair (rr : StackPair) (s : State) : Access := s.pop16 fun v t => .done (t.setStackPair rr v)

/-- XCHG (R102). -/
def exchangeDeHl (s : State) : Access :=
  .done { s with regs := (s.regs.setHl s.regs.de).setDe s.regs.hl }

/-- XTHL: read the stack top, store HL there, then write HL; SP stays (R103). -/
def exchangeTopHl (s : State) : Access :=
  s.loadWord s.sp fun v => (s.storeWord s.sp s.regs.hl).andThen fun t => .done (t.setPair .hl v)

/-- SPHL (R104). -/
def copyHlToSp (s : State) : Access := .done { s with sp := s.regs.hl }

/-! ### The meanings -/

/-- POP B (R100). -/
def execPopB (s : State) : Outcome := perform .popB (popPair .bc) s

/-- PUSH B (R98). -/
def execPushB (s : State) : Outcome := perform .pushB (pushPair .bc) s

/-- POP D (R100). -/
def execPopD (s : State) : Outcome := perform .popD (popPair .de) s

/-- PUSH D (R98). -/
def execPushD (s : State) : Outcome := perform .pushD (pushPair .de) s

/-- POP H (R100). -/
def execPopH (s : State) : Outcome := perform .popH (popPair .hl) s

/-- XTHL (R103). -/
def execXthl (s : State) : Outcome := perform .xthl exchangeTopHl s

/-- PUSH H (R98). -/
def execPushH (s : State) : Outcome := perform .pushH (pushPair .hl) s

/-- XCHG (R102). -/
def execXchg (s : State) : Outcome := perform .xchg exchangeDeHl s

/-- POP PSW (R101). -/
def execPopPsw (s : State) : Outcome := perform .popPsw (popPair .psw) s

/-- PUSH PSW (R99). -/
def execPushPsw (s : State) : Outcome := perform .pushPsw (pushPair .psw) s

/-- SPHL (R104). -/
def execSphl (s : State) : Outcome := perform .sphl copyHlToSp s

end Sys2Proof.Machine
end

