-- ==== Sys2Proof/Machine/Ports.lean ====
section
/-! DEFINITION. The peripheral I/O shim (spec/60_exceptions.md R166-R168) and the port request of a step (R150). -/

namespace Sys2Proof.Machine

/-- The port request a step's `Continue` carries (R39, R150). -/
inductive IoRequest where
  | none
  | inp (port : Byte)
  | out (port : Byte) (value : Byte)
deriving DecidableEq, Repr

/-- The shift read: `((shift_hi : shift_lo) >> (8 - shift_off)) & 0xFF` (R166). -/
def Shifter.read (x : Shifter) : Byte := ((x.hi ++ x.lo : Word) >>> (8 - x.off.toNat)).setWidth 8

/-- `portIn(p)` (R166). The known ports are tested before `PORT_IN_PRESENT`; under R7 the order makes no difference
(log entry 8). -/
def State.portIn (s : State) (p : Byte) : Byte :=
  if p = s.cfg.portInButtons then s.latch.read s.cfg.portInButtons.toNat
  else if p = s.cfg.portInShift then s.shifter.read
  else if p = s.cfg.portInPresent then s.cfg.presentValue
  else 0x00#8

/-- `portOut(p, v)`: the shift offset (R167), the shift data (R168), and no effect on every other port. -/
def State.portOut (s : State) (p : Byte) (v : Byte) : State :=
  if p = s.cfg.portOutShiftOffset then { s with shifter := { s.shifter with off := v.setWidth 3 } }
  else if p = s.cfg.portOutShiftData then { s with shifter := { s.shifter with hi := v, lo := s.shifter.hi } }
  else s

/-- The port transfer of the iteration: `A <- portIn(p)`, or `portOut(p, v)` (R147, R148, R163). -/
def State.portTransfer (s : State) (io : IoRequest) : State :=
  match io with
  | .none => s
  | .inp p => { s with regs := { s.regs with a := s.portIn p } }
  | .out p v => s.portOut p v

end Sys2Proof.Machine
end

