-- ==== Sys2Proof/Machine/System.lean ====
section
/-! DEFINITION. Interrupt toggles, port I/O and halt (spec/44_system_io.md R145-R149). None writes a flag. -/

namespace Sys2Proof.Machine

/-- EI: at once, no shadow (R145). -/
def enableInterrupts (s : State) : Access := .done { s with ime := true }

/-- DI (R146). -/
def disableInterrupts (s : State) : Access := .done { s with ime := false }

/-- IN: the step asks for `In(p)`, and the port transfer of the same iteration writes A (R147; log entry 6). -/
def inputPort (p : Byte) (s : State) : Access := .done (s.portTransfer (.inp p))

/-- OUT: the step asks for `Out(p, A)`, and the port transfer follows (R148; log entry 6). -/
def outputPort (p : Byte) (s : State) : Access := .done (s.portTransfer (.out p s.regs.a))

/-- HLT: `halted <- 1`, and the run ends (R149, R19). -/
def haltRun (s : State) : Access := .done { s with halted := true }

/-! ### The meanings -/

/-- HLT (R149). -/
def execHlt (s : State) : Outcome := perform .hlt haltRun s

/-- OUT p8 (R148). -/
def execOut (p8 : Byte) (s : State) : Outcome := perform (.out p8) (outputPort p8) s

/-- IN p8 (R147). -/
def execInp (p8 : Byte) (s : State) : Outcome := perform (.inp p8) (inputPort p8) s

/-- DI (R146). -/
def execDi (s : State) : Outcome := perform .di disableInterrupts s

/-- EI (R145). -/
def execEi (s : State) : Outcome := perform .ei enableInterrupts s

end Sys2Proof.Machine
end

