-- ==== Sys2Proof/Machine/Transfer.lean ====
section
/-! DEFINITION. No-op, moves, immediate loads, direct and indirect loads and stores (spec/40_data_transfer.md R82-R94). None
writes a flag. -/

namespace Sys2Proof.Machine

/-- NOP (R82). -/
def noOperation (s : State) : Access := .done s

/-- `reg8[d] <- reg8[r]` (R83-R85): the read comes first. -/
def moveSlot (d r : Slot) (s : State) : Access := s.readSlot r fun v => s.writeSlot d v

/-- `reg8[d] <- v` (R86, R87). -/
def storeSlot (d : Slot) (v : Byte) (s : State) : Access := s.writeSlot d v

/-- `rp[rr] <- v` (R88). -/
def loadPair (rr : RegPair) (v : Word) (s : State) : Access := .done (s.setPair rr v)

/-- `A <- MemRead(a, 1)` (R91). -/
def loadA (a : Addr) (s : State) : Access := s.loadByte a fun v => .done (s.setReg .a v)

/-- `MemWrite(a, 1, A)` (R92). -/
def storeA (a : Addr) (s : State) : Access := s.storeByte a s.regs.a

/-- LDAX (R89). -/
def loadAIndirect (r : IndirectPair) (s : State) : Access := loadA (s.indirect r) s

/-- STAX (R90). -/
def storeAIndirect (r : IndirectPair) (s : State) : Access := storeA (s.indirect r) s

/-- `L <- mem[a]; H <- mem[a+1]` (R93). -/
def loadHl (a : Addr) (s : State) : Access := s.loadWord a fun v => .done (s.setPair .hl v)

/-- `MemWrite(a, 2, HL)` (R94). -/
def storeHl (a : Addr) (s : State) : Access := s.storeWord a s.regs.hl

/-! ### The meanings -/

/-- NOP (R82). -/
def execNop (s : State) : Outcome := perform .nop noOperation s

/-- LXI B,d16 (R88). -/
def execLxiB (d16 : Word) (s : State) : Outcome := perform (.lxiB d16) (loadPair .bc d16) s

/-- STAX B (R90). -/
def execStaxB (s : State) : Outcome := perform .staxB (storeAIndirect .bc) s

/-- MVI B,d8 (R86). -/
def execMviB (d8 : Byte) (s : State) : Outcome := perform (.mviB d8) (storeSlot (.reg .b) d8) s

/-- LDAX B (R89). -/
def execLdaxB (s : State) : Outcome := perform .ldaxB (loadAIndirect .bc) s

/-- MVI C,d8 (R86). -/
def execMviC (d8 : Byte) (s : State) : Outcome := perform (.mviC d8) (storeSlot (.reg .c) d8) s

/-- LXI D,d16 (R88). -/
def execLxiD (d16 : Word) (s : State) : Outcome := perform (.lxiD d16) (loadPair .de d16) s

/-- STAX D (R90). -/
def execStaxD (s : State) : Outcome := perform .staxD (storeAIndirect .de) s

/-- MVI D,d8 (R86). -/
def execMviD (d8 : Byte) (s : State) : Outcome := perform (.mviD d8) (storeSlot (.reg .d) d8) s

/-- LDAX D (R89). -/
def execLdaxD (s : State) : Outcome := perform .ldaxD (loadAIndirect .de) s

/-- MVI E,d8 (R86). -/
def execMviE (d8 : Byte) (s : State) : Outcome := perform (.mviE d8) (storeSlot (.reg .e) d8) s

/-- LXI H,d16 (R88). -/
def execLxiH (d16 : Word) (s : State) : Outcome := perform (.lxiH d16) (loadPair .hl d16) s

/-- SHLD a16 (R94). -/
def execShld (a16 : Addr) (s : State) : Outcome := perform (.shld a16) (storeHl a16) s

/-- MVI H,d8 (R86). -/
def execMviH (d8 : Byte) (s : State) : Outcome := perform (.mviH d8) (storeSlot (.reg .h) d8) s

/-- LHLD a16 (R93). -/
def execLhld (a16 : Addr) (s : State) : Outcome := perform (.lhld a16) (loadHl a16) s

/-- MVI L,d8 (R86). -/
def execMviL (d8 : Byte) (s : State) : Outcome := perform (.mviL d8) (storeSlot (.reg .l) d8) s

/-- LXI SP,d16 (R88). -/
def execLxiSp (d16 : Word) (s : State) : Outcome := perform (.lxiSp d16) (loadPair .sp d16) s

/-- STA a16 (R92). -/
def execSta (a16 : Addr) (s : State) : Outcome := perform (.sta a16) (storeA a16) s

/-- MVI M,d8 (R87). -/
def execMviM (d8 : Byte) (s : State) : Outcome := perform (.mviM d8) (storeSlot .mem d8) s

/-- LDA a16 (R91). -/
def execLda (a16 : Addr) (s : State) : Outcome := perform (.lda a16) (loadA a16) s

/-- MVI A,d8 (R86). -/
def execMviA (d8 : Byte) (s : State) : Outcome := perform (.mviA d8) (storeSlot (.reg .a) d8) s

/-- MOV B,B (R83). -/
def execMovBB (s : State) : Outcome := perform .movBB (moveSlot (.reg .b) (.reg .b)) s

/-- MOV B,C (R83). -/
def execMovBC (s : State) : Outcome := perform .movBC (moveSlot (.reg .b) (.reg .c)) s

/-- MOV B,D (R83). -/
def execMovBD (s : State) : Outcome := perform .movBD (moveSlot (.reg .b) (.reg .d)) s

/-- MOV B,E (R83). -/
def execMovBE (s : State) : Outcome := perform .movBE (moveSlot (.reg .b) (.reg .e)) s

/-- MOV B,H (R83). -/
def execMovBH (s : State) : Outcome := perform .movBH (moveSlot (.reg .b) (.reg .h)) s

/-- MOV B,L (R83). -/
def execMovBL (s : State) : Outcome := perform .movBL (moveSlot (.reg .b) (.reg .l)) s

/-- MOV B,M (R84). -/
def execMovBM (s : State) : Outcome := perform .movBM (moveSlot (.reg .b) .mem) s

/-- MOV B,A (R83). -/
def execMovBA (s : State) : Outcome := perform .movBA (moveSlot (.reg .b) (.reg .a)) s

/-- MOV C,B (R83). -/
def execMovCB (s : State) : Outcome := perform .movCB (moveSlot (.reg .c) (.reg .b)) s

/-- MOV C,C (R83). -/
def execMovCC (s : State) : Outcome := perform .movCC (moveSlot (.reg .c) (.reg .c)) s

/-- MOV C,D (R83). -/
def execMovCD (s : State) : Outcome := perform .movCD (moveSlot (.reg .c) (.reg .d)) s

/-- MOV C,E (R83). -/
def execMovCE (s : State) : Outcome := perform .movCE (moveSlot (.reg .c) (.reg .e)) s

/-- MOV C,H (R83). -/
def execMovCH (s : State) : Outcome := perform .movCH (moveSlot (.reg .c) (.reg .h)) s

/-- MOV C,L (R83). -/
def execMovCL (s : State) : Outcome := perform .movCL (moveSlot (.reg .c) (.reg .l)) s

/-- MOV C,M (R84). -/
def execMovCM (s : State) : Outcome := perform .movCM (moveSlot (.reg .c) .mem) s

/-- MOV C,A (R83). -/
def execMovCA (s : State) : Outcome := perform .movCA (moveSlot (.reg .c) (.reg .a)) s

/-- MOV D,B (R83). -/
def execMovDB (s : State) : Outcome := perform .movDB (moveSlot (.reg .d) (.reg .b)) s

/-- MOV D,C (R83). -/
def execMovDC (s : State) : Outcome := perform .movDC (moveSlot (.reg .d) (.reg .c)) s

/-- MOV D,D (R83). -/
def execMovDD (s : State) : Outcome := perform .movDD (moveSlot (.reg .d) (.reg .d)) s

/-- MOV D,E (R83). -/
def execMovDE (s : State) : Outcome := perform .movDE (moveSlot (.reg .d) (.reg .e)) s

/-- MOV D,H (R83). -/
def execMovDH (s : State) : Outcome := perform .movDH (moveSlot (.reg .d) (.reg .h)) s

/-- MOV D,L (R83). -/
def execMovDL (s : State) : Outcome := perform .movDL (moveSlot (.reg .d) (.reg .l)) s

/-- MOV D,M (R84). -/
def execMovDM (s : State) : Outcome := perform .movDM (moveSlot (.reg .d) .mem) s

/-- MOV D,A (R83). -/
def execMovDA (s : State) : Outcome := perform .movDA (moveSlot (.reg .d) (.reg .a)) s

/-- MOV E,B (R83). -/
def execMovEB (s : State) : Outcome := perform .movEB (moveSlot (.reg .e) (.reg .b)) s

/-- MOV E,C (R83). -/
def execMovEC (s : State) : Outcome := perform .movEC (moveSlot (.reg .e) (.reg .c)) s

/-- MOV E,D (R83). -/
def execMovED (s : State) : Outcome := perform .movED (moveSlot (.reg .e) (.reg .d)) s

/-- MOV E,E (R83). -/
def execMovEE (s : State) : Outcome := perform .movEE (moveSlot (.reg .e) (.reg .e)) s

/-- MOV E,H (R83). -/
def execMovEH (s : State) : Outcome := perform .movEH (moveSlot (.reg .e) (.reg .h)) s

/-- MOV E,L (R83). -/
def execMovEL (s : State) : Outcome := perform .movEL (moveSlot (.reg .e) (.reg .l)) s

/-- MOV E,M (R84). -/
def execMovEM (s : State) : Outcome := perform .movEM (moveSlot (.reg .e) .mem) s

/-- MOV E,A (R83). -/
def execMovEA (s : State) : Outcome := perform .movEA (moveSlot (.reg .e) (.reg .a)) s

/-- MOV H,B (R83). -/
def execMovHB (s : State) : Outcome := perform .movHB (moveSlot (.reg .h) (.reg .b)) s

/-- MOV H,C (R83). -/
def execMovHC (s : State) : Outcome := perform .movHC (moveSlot (.reg .h) (.reg .c)) s

/-- MOV H,D (R83). -/
def execMovHD (s : State) : Outcome := perform .movHD (moveSlot (.reg .h) (.reg .d)) s

/-- MOV H,E (R83). -/
def execMovHE (s : State) : Outcome := perform .movHE (moveSlot (.reg .h) (.reg .e)) s

/-- MOV H,H (R83). -/
def execMovHH (s : State) : Outcome := perform .movHH (moveSlot (.reg .h) (.reg .h)) s

/-- MOV H,L (R83). -/
def execMovHL (s : State) : Outcome := perform .movHL (moveSlot (.reg .h) (.reg .l)) s

/-- MOV H,M (R84). -/
def execMovHM (s : State) : Outcome := perform .movHM (moveSlot (.reg .h) .mem) s

/-- MOV H,A (R83). -/
def execMovHA (s : State) : Outcome := perform .movHA (moveSlot (.reg .h) (.reg .a)) s

/-- MOV L,B (R83). -/
def execMovLB (s : State) : Outcome := perform .movLB (moveSlot (.reg .l) (.reg .b)) s

/-- MOV L,C (R83). -/
def execMovLC (s : State) : Outcome := perform .movLC (moveSlot (.reg .l) (.reg .c)) s

/-- MOV L,D (R83). -/
def execMovLD (s : State) : Outcome := perform .movLD (moveSlot (.reg .l) (.reg .d)) s

/-- MOV L,E (R83). -/
def execMovLE (s : State) : Outcome := perform .movLE (moveSlot (.reg .l) (.reg .e)) s

/-- MOV L,H (R83). -/
def execMovLH (s : State) : Outcome := perform .movLH (moveSlot (.reg .l) (.reg .h)) s

/-- MOV L,L (R83). -/
def execMovLL (s : State) : Outcome := perform .movLL (moveSlot (.reg .l) (.reg .l)) s

/-- MOV L,M (R84). -/
def execMovLM (s : State) : Outcome := perform .movLM (moveSlot (.reg .l) .mem) s

/-- MOV L,A (R83). -/
def execMovLA (s : State) : Outcome := perform .movLA (moveSlot (.reg .l) (.reg .a)) s

/-- MOV M,B (R85). -/
def execMovMB (s : State) : Outcome := perform .movMB (moveSlot .mem (.reg .b)) s

/-- MOV M,C (R85). -/
def execMovMC (s : State) : Outcome := perform .movMC (moveSlot .mem (.reg .c)) s

/-- MOV M,D (R85). -/
def execMovMD (s : State) : Outcome := perform .movMD (moveSlot .mem (.reg .d)) s

/-- MOV M,E (R85). -/
def execMovME (s : State) : Outcome := perform .movME (moveSlot .mem (.reg .e)) s

/-- MOV M,H (R85). -/
def execMovMH (s : State) : Outcome := perform .movMH (moveSlot .mem (.reg .h)) s

/-- MOV M,L (R85). -/
def execMovML (s : State) : Outcome := perform .movML (moveSlot .mem (.reg .l)) s

/-- MOV M,A (R85). -/
def execMovMA (s : State) : Outcome := perform .movMA (moveSlot .mem (.reg .a)) s

/-- MOV A,B (R83). -/
def execMovAB (s : State) : Outcome := perform .movAB (moveSlot (.reg .a) (.reg .b)) s

/-- MOV A,C (R83). -/
def execMovAC (s : State) : Outcome := perform .movAC (moveSlot (.reg .a) (.reg .c)) s

/-- MOV A,D (R83). -/
def execMovAD (s : State) : Outcome := perform .movAD (moveSlot (.reg .a) (.reg .d)) s

/-- MOV A,E (R83). -/
def execMovAE (s : State) : Outcome := perform .movAE (moveSlot (.reg .a) (.reg .e)) s

/-- MOV A,H (R83). -/
def execMovAH (s : State) : Outcome := perform .movAH (moveSlot (.reg .a) (.reg .h)) s

/-- MOV A,L (R83). -/
def execMovAL (s : State) : Outcome := perform .movAL (moveSlot (.reg .a) (.reg .l)) s

/-- MOV A,M (R84). -/
def execMovAM (s : State) : Outcome := perform .movAM (moveSlot (.reg .a) .mem) s

/-- MOV A,A (R83). -/
def execMovAA (s : State) : Outcome := perform .movAA (moveSlot (.reg .a) (.reg .a)) s

end Sys2Proof.Machine
end

