-- ==== Sys2Proof/Machine/Unimplemented.lean ====
section
/-! DEFINITION. The 13 opcode values that match no family (spec/30_encoding.md R78): each takes UnimplementedOpcode
(spec/60_exceptions.md R152). -/

namespace Sys2Proof.Machine

/-- 0x08, unimplemented: undocumented alias (R78, R152). -/
def execAlias08 (s : State) : Outcome := performUnimplemented .alias08 s

/-- 0x10, unimplemented: undocumented alias (R78, R152). -/
def execAlias10 (s : State) : Outcome := performUnimplemented .alias10 s

/-- 0x18, unimplemented: undocumented alias (R78, R152). -/
def execAlias18 (s : State) : Outcome := performUnimplemented .alias18 s

/-- 0x20, unimplemented: undocumented alias (R78, R152). -/
def execAlias20 (s : State) : Outcome := performUnimplemented .alias20 s

/-- 0x27, unimplemented: DAA (R78, R152). -/
def execDaa (s : State) : Outcome := performUnimplemented .daa s

/-- 0x28, unimplemented: undocumented alias (R78, R152). -/
def execAlias28 (s : State) : Outcome := performUnimplemented .alias28 s

/-- 0x30, unimplemented: undocumented alias (R78, R152). -/
def execAlias30 (s : State) : Outcome := performUnimplemented .alias30 s

/-- 0x38, unimplemented: undocumented alias (R78, R152). -/
def execAlias38 (s : State) : Outcome := performUnimplemented .alias38 s

/-- 0xCB, unimplemented: undocumented alias (R78, R152). -/
def execAliasCB (s : State) : Outcome := performUnimplemented .aliasCB s

/-- 0xD9, unimplemented: undocumented alias (R78, R152). -/
def execAliasD9 (s : State) : Outcome := performUnimplemented .aliasD9 s

/-- 0xDD, unimplemented: undocumented alias (R78, R152). -/
def execAliasDD (s : State) : Outcome := performUnimplemented .aliasDD s

/-- 0xED, unimplemented: undocumented alias (R78, R152). -/
def execAliasED (s : State) : Outcome := performUnimplemented .aliasED s

/-- 0xFD, unimplemented: undocumented alias (R78, R152). -/
def execAliasFD (s : State) : Outcome := performUnimplemented .aliasFD s

end Sys2Proof.Machine
end

