-- ==== Sys2Proof/Machine/Fetch.lean ====
section
/-! DEFINITION. Fetching an instruction at PC: the common fetch of the opcode (spec/60_exceptions.md R150) and the
operand fetches (spec/00_scope.md R14), each of which may be out of range (R154, R156). -/

namespace Sys2Proof.Machine

/-- An instruction with its operands, or the state a fetch out of range leaves. -/
inductive Fetched where
  | ready (i : Instr)
  | trapped (s : State)
deriving DecidableEq, Repr

/-- `Fetch8()` of R14; out of range, the fault records `op` (R151) and the PC advances before it stand (R154). -/
def State.fetchByte (s : State) (op : Option Byte) (k : Byte → State → Fetched) : Fetched :=
  match s.peek s.pc with
  | some v => k v (s.advance 1)
  | none => .trapped (s.takeFault .outOfRange s.pc op)

/-- The opcode, then the operand bytes it asks for, a word low byte first (R14, R75, R150). -/
def State.fetch (s : State) : Fetched :=
  s.fetchByte none fun op s1 =>
    match decodeOpcode op with
    | .bare i => .ready i
    | .byte k => s1.fetchByte (some op) fun v _ => .ready (k v)
    | .word k =>
      s1.fetchByte (some op) fun lo s2 =>
        s2.fetchByte (some op) fun hi _ => .ready (k (Word.join hi lo))

/-- Whether the longest instruction at PC could be fetched. -/
def State.fetchable (s : State) : Bool :=
  (indexOf s.cfg s.pc).isSome && (indexOf s.cfg (s.pc + 1)).isSome && (indexOf s.cfg (s.pc + 2)).isSome

/-- A running state that fetches at an address in range: a run that has ended is taken up again, and a PC from which
three bytes cannot be fetched becomes the entry point 0x0000 (log entry 10). -/
def State.readyToFetch (s : State) : State :=
  { s with halted := false, fault := none, pc := if s.fetchable then s.pc else 0 }

/-- Place three bytes at PC past the gate, as a load does (R65). -/
def State.placeAtPc (s : State) (bytes : List Byte) : State :=
  match bytes with
  | [b0, b1, b2] => ((s.poke s.pc b0).poke (s.pc + 1) b1).poke (s.pc + 2) b2
  | _ => s

end Sys2Proof.Machine
end

