-- ==== Sys2Proof/Machine/Transactions.lean ====
section
/-! DEFINITION. What the host does to the block between steps (spec/00_scope.md section 5): the timer tick, latch
writes and the draining of an iteration's events (spec/60_exceptions.md R160, R163, R164), `clearDirty`, `videoRead`
and the program load (spec/20_memory.md R50, R66, R65). -/

namespace Sys2Proof.Machine

/-- Whether the run has ended: halted, or faulted (R19). -/
def State.ended (s : State) : Bool := s.halted || s.fault.isSome

/-- The vector a tick selects (R160). -/
def State.tickVector (s : State) : BitVec 3 := if s.altLast = s.cfg.vecA then s.cfg.vecB else s.cfg.vecA

/-- `tick()` of R160; a fault in `raise` leaves the marker (R15). -/
def State.tick (s : State) : State :=
  match s.raise s.tickVector.toNat with
  | .lost t => if s.cfg.altAdvance = .onTick then { t with altLast := s.tickVector } else t
  | .delivered t => { t with altLast := s.tickVector }
  | .faulted t => t

/-- The state a bare `raise(v)` of the host leaves (R158). -/
def State.hostRaise (s : State) (v : Nat) : State :=
  match s.raise v with
  | .lost t => t
  | .delivered t => t
  | .faulted t => t

/-- `latchWrite(p, b)` (R164). -/
def State.latchWrite (s : State) (p b : Byte) : State := { s with latch := s.latch.write p.toNat b }

/-- One external event (R163). -/
def State.handle (s : State) (e : HostEvent) : State :=
  match e with
  | .tick => s.tick
  | .raise v => s.hostRaise v
  | .latch p b => s.latchWrite p b

/-- The events of an iteration, in order; a fault ends the run, and no later event happens (R163). -/
def State.drain (s : State) (es : List HostEvent) : State :=
  match es with
  | [] => s
  | e :: rest => if (s.handle e).fault.isSome then s.handle e else (s.handle e).drain rest

/-- `clearDirty()` (R50). -/
def State.clearDirty (s : State) : State := { s with dirty := false }

/-- The end of an iteration: unless the run has ended, the host's next turn is taken from the timeline, its events
are drained (R163), and it may call `clearDirty()` before the next step (R50). Beyond the timeline's end the host
does nothing. -/
def State.hostTurn (s : State) : State :=
  if s.ended then s
  else
    match s.timeline with
    | [] => s
    | turn :: rest =>
      let t := { s with timeline := rest }.drain turn.events
      if turn.clearDirty && !t.ended then t.clearDirty else t

/-- `videoRead(a)` for an address in the video window (R66); it changes nothing. -/
def State.videoRead (s : State) (a : Addr) : Option Byte :=
  if s.cfg.videoBase ≤ a.toNat ∧ a.toNat < s.cfg.videoLimit then some (s.mem.read a.toNat) else none

/-- `load(LOAD_ORIGIN, bytes)`: past the gate, before the first step; an image that does not fit is refused (R65). -/
def loadImage (bytes : List Byte) (s : State) : Outcome :=
  if s.cfg.loadOrigin + bytes.length ≤ s.cfg.memSize then
    .next { s with mem := s.mem.writeAll s.cfg.loadOrigin bytes }
  else .refused .imageTooLarge

end Sys2Proof.Machine
end

