-- ==== Sys2Proof/Machine/Step.lean ====
section
/-! DEFINITION. One iteration of the host loop (spec/60_exceptions.md R163): the step of R150 with its port transfer,
then the host's turn. -/

namespace Sys2Proof.Machine

/-- The step of R150, with the port transfer it asks for. A run that has ended has no move. -/
def blockStep (s : State) : Host.Outcome State Fault Refusal :=
  if s.ended then .fault .runEnded
  else
    match s.fetch with
    | .trapped t => .next t
    | .ready i => exec i s

/-- One iteration: a step, then, unless the run has ended, the host's turn (R163). -/
def step (s : State) : Host.Outcome State Fault Refusal :=
  match blockStep s with
  | .next t => .next t.hostTurn
  | .fault r => .fault r
  | .refused r => .refused r

/-- `s` with the bytes of a table word placed where `step` fetches next (log entry 10). -/
def State.withFetchWord (s : State) (nbits w : Nat) : State :=
  s.readyToFetch.placeAtPc (tableBytes nbits w)

end Sys2Proof.Machine
end

