-- ==== Sys2Proof/Machine/Report.lean ====
section
/-! DEFINITION. What the host is told by a step: its outcome of spec/60_exceptions.md R150 (`Continue(io)`, `Halted`
or `Fault(kind, addr, byte)`), read off the state the step leaves. -/

namespace Sys2Proof.Machine

/-- The outcomes of R150. -/
inductive StepReport where
  | continue (io : IoRequest)
  | halted
  | fault (r : FaultRecord)
deriving DecidableEq, Repr

/-- The port request of an instruction's step: IN and OUT name one, every other rule names none (R147, R148, R150). -/
def ioRequest (i : Instr) (s : State) : IoRequest :=
  match i with
  | .inp p => .inp p
  | .out p => .out p s.regs.a
  | _ => .none

/-- The outcome of a step that leaves `t`, given the port request it carries if it continues. -/
def reportOf (io : IoRequest) (t : State) : StepReport :=
  match t.fault with
  | some r => .fault r
  | none => if t.halted then .halted else .continue io

/-- The outcome of the step at `s`, or `none` where there is no step (R150). -/
def stepReport (s : State) : Option StepReport :=
  if s.ended then none
  else
    match s.fetch with
    | .trapped t => some (reportOf .none t)
    | .ready i =>
      match exec i s with
      | .next t => some (reportOf (ioRequest i s) t)
      | .fault _ => none
      | .refused _ => none

end Sys2Proof.Machine
end

