-- ==== Sys2Proof/WellFormed.lean ====
section
/-! DEFINITION. Which configurations spec/00_scope.md R7 admits, and which rows of the opcode map are instructions
under a configuration (spec/30_encoding.md R76, R78). Operands need no check: every value of d8, p8, d16 and a16 is
legal (R79). -/

namespace Sys2Proof

/-- R7: `PROTECT_LIMIT <= VIDEO_BASE < VIDEO_LIMIT <= MEM_SIZE <= 0x10000`. -/
def Config.regionsOrdered (c : Config) : Bool :=
  decide (c.protectLimit ≤ c.videoBase) && decide (c.videoBase < c.videoLimit) &&
    decide (c.videoLimit ≤ c.memSize) && decide (c.memSize ≤ 0x10000)

/-- R7: `LOAD_ORIGIN` is a 16-bit address. -/
def Config.originIsAddress (c : Config) : Bool :=
  decide (c.loadOrigin < 0x10000)

/-- R7: the input ports are pairwise distinct. -/
def Config.inputPortsDistinct (c : Config) : Bool :=
  c.portInPresent != c.portInButtons && c.portInPresent != c.portInShift && c.portInButtons != c.portInShift

/-- R7: the output ports are distinct. -/
def Config.outputPortsDistinct (c : Config) : Bool :=
  c.portOutShiftOffset != c.portOutShiftData

/-- The constraints R7 puts on the parameters. -/
def Config.wf (c : Config) : Bool :=
  c.regionsOrdered && c.originIsAddress && c.inputPortsDistinct && c.outputPortsDistinct

/-- Whether an opcode-map row is an instruction under a configuration: not one of the 13 unimplemented values of R78,
and PCHL only when `ENABLE_PCHL` is true. -/
def Instr.wf (c : Config) (i : Instr) : Bool :=
  match i with
  | .alias08 | .alias10 | .alias18 | .alias20 | .daa | .alias28
  | .alias30 | .alias38 | .aliasCB | .aliasD9 | .aliasDD | .aliasED
  | .aliasFD => false
  | .pchl => c.enablePchl
  | .nop | .lxiB _ | .staxB | .inxB | .inrB | .dcrB | .mviB _ | .rlc | .dadB | .ldaxB
  | .dcxB | .inrC | .dcrC | .mviC _ | .rrc | .lxiD _ | .staxD | .inxD | .inrD | .dcrD
  | .mviD _ | .ral | .dadD | .ldaxD | .dcxD | .inrE | .dcrE | .mviE _ | .rar | .lxiH _
  | .shld _ | .inxH | .inrH | .dcrH | .mviH _ | .dadH | .lhld _ | .dcxH | .inrL | .dcrL
  | .mviL _ | .cma | .lxiSp _ | .sta _ | .inxSp | .inrM | .dcrM | .mviM _ | .stc | .dadSp
  | .lda _ | .dcxSp | .inrA | .dcrA | .mviA _ | .cmc | .movBB | .movBC | .movBD | .movBE
  | .movBH | .movBL | .movBM | .movBA | .movCB | .movCC | .movCD | .movCE | .movCH | .movCL
  | .movCM | .movCA | .movDB | .movDC | .movDD | .movDE | .movDH | .movDL | .movDM | .movDA
  | .movEB | .movEC | .movED | .movEE | .movEH | .movEL | .movEM | .movEA | .movHB | .movHC
  | .movHD | .movHE | .movHH | .movHL | .movHM | .movHA | .movLB | .movLC | .movLD | .movLE
  | .movLH | .movLL | .movLM | .movLA | .movMB | .movMC | .movMD | .movME | .movMH | .movML
  | .hlt | .movMA | .movAB | .movAC | .movAD | .movAE | .movAH | .movAL | .movAM | .movAA
  | .addB | .addC | .addD | .addE | .addH | .addL | .addM | .addA | .adcB | .adcC
  | .adcD | .adcE | .adcH | .adcL | .adcM | .adcA | .subB | .subC | .subD | .subE
  | .subH | .subL | .subM | .subA | .sbbB | .sbbC | .sbbD | .sbbE | .sbbH | .sbbL
  | .sbbM | .sbbA | .anaB | .anaC | .anaD | .anaE | .anaH | .anaL | .anaM | .anaA
  | .xraB | .xraC | .xraD | .xraE | .xraH | .xraL | .xraM | .xraA | .oraB | .oraC
  | .oraD | .oraE | .oraH | .oraL | .oraM | .oraA | .cmpB | .cmpC | .cmpD | .cmpE
  | .cmpH | .cmpL | .cmpM | .cmpA | .rnz | .popB | .jnz _ | .jmp _ | .cnz _ | .pushB
  | .adi _ | .rst0 | .rz | .ret | .jz _ | .cz _ | .call _ | .aci _ | .rst1 | .rnc
  | .popD | .jnc _ | .out _ | .cnc _ | .pushD | .sui _ | .rst2 | .rc | .jc _ | .inp _
  | .cc _ | .sbi _ | .rst3 | .rpo | .popH | .jpo _ | .xthl | .cpo _ | .pushH | .ani _
  | .rst4 | .rpe | .jpe _ | .xchg | .cpe _ | .xri _ | .rst5 | .rp | .popPsw | .jp _
  | .di | .cp _ | .pushPsw | .ori _ | .rst6 | .rm | .sphl | .jm _ | .ei | .cm _
  | .cpi _ | .rst7 => true

end Sys2Proof
end

