-- ==== Sys2Proof/Safety.lean ====
section
/-! DEFINITION. The terms the statements use: the invariant of every run, what a gated write does, what a state holds
at PC, and when a run is safe. -/

namespace Sys2Proof.Machine

/-! ### The invariant -/

/-- Whether an opcode value is an instruction under a configuration (R78). -/
def opcodeImplemented (c : Config) (op : Byte) : Bool :=
  match decodeOpcode op with
  | .bare i => i.wf c
  | .byte _ => true
  | .word _ => true

/-- A fault record that R151 allows: an OutOfRange address has no index, an UnimplementedOpcode byte is no
instruction, and an InvalidInternalSelector records a byte. -/
def FaultRecord.wf (c : Config) (r : FaultRecord) : Bool :=
  match r.kind with
  | .outOfRange => (indexOf c r.addr).isNone
  | .unimplementedOpcode =>
    match r.byte with
    | some op => !opcodeImplemented c op
    | none => false
  | .invalidInternalSelector => r.byte.isSome

/-- A ProtectedWrite record that R46 allows: its address has an index below `PROTECT_LIMIT`. -/
def ProtectedWrite.wf (c : Config) (e : ProtectedWrite) : Bool :=
  match indexOf c e.addr with
  | some i => decide (i < c.protectLimit)
  | none => false

/-- The invariant of every run: the parameters satisfy R7, memory and latches are in canonical form and in their
bounds (R43, R32), every event names a protected address (R46), the fault record is one R151 allows, and a run has
not both halted and faulted (R19). -/
def State.wf (s : State) : Bool :=
  s.cfg.wf && s.mem.wf && s.mem.below s.cfg.memSize && s.latch.wf && s.latch.below 256 &&
    s.events.all (ProtectedWrite.wf s.cfg) && s.fault.all (FaultRecord.wf s.cfg) && !(s.halted && s.fault.isSome)

/-- A safe run so far: no fault. -/
def State.safe (s : State) : Bool := s.fault.isNone

/-! ### Memory effects -/

/-- `t` is `s` but for memory, `dirty` and the event log. -/
def State.sameBesideMemory (s t : State) : Prop :=
  t = { s with mem := t.mem, dirty := t.dirty, events := t.events }

/-- `t` is `s` after the gated write of `v` at address `a` (R46, R47): every other byte reads as before; a protected
byte too, with one event; any other byte is stored, and `dirty` is raised in the video window. -/
def State.gateWrote (s t : State) (a : Addr) (v : Byte) : Prop :=
  ∃ i, indexOf s.cfg a = some i ∧ s.sameBesideMemory t ∧ (∀ j, j ≠ i → t.mem.read j = s.mem.read j) ∧
    (i < s.cfg.protectLimit →
      t.mem.read i = s.mem.read i ∧ t.dirty = s.dirty ∧ t.events = s.events ++ [{ addr := a, byte := v }]) ∧
    (¬ i < s.cfg.protectLimit →
      t.mem.read i = v ∧ t.events = s.events ∧
        t.dirty = (s.dirty || decide (s.cfg.videoBase ≤ i ∧ i < s.cfg.videoLimit)))

/-- `t` is `s` after the two gated byte writes of a word at `a`, low byte first (R53). -/
def State.gateWroteWord (s t : State) (a : Addr) (v : Word) : Prop :=
  ∃ u, s.gateWrote u a v.low ∧ u.gateWrote t (a + 1) v.high

/-- `t` is `s` with the OutOfRange record for address `a` (R151). -/
def State.outOfRangeAt (s t : State) (a : Addr) (byte : Option Byte) : Prop :=
  t = { s with fault := some { kind := .outOfRange, addr := a, byte := byte } }

/-- What a gated word write at `a` that is out of range leaves: the address of the record is the first byte's, or the
second's after the first byte's write (R154). -/
def State.wordWriteFaulted (s t : State) (a : Addr) (v : Word) (byte : Option Byte) : Prop :=
  (indexOf s.cfg a = none ∧ s.outOfRangeAt t a byte) ∨
    (indexOf s.cfg (a + 1) = none ∧ ∃ u, s.gateWrote u a v.low ∧ u.outOfRangeAt t (a + 1) byte)

/-! ### Instructions in memory -/

/-- The first `n` bytes of the instruction's encoding stand at PC, in range. -/
def State.holdsPrefix (s : State) (i : Instr) (n : Nat) : Prop :=
  ∀ k, k < n → s.peek (s.pc + BitVec.ofNat 16 k) = (encode i)[k]?

/-- The instruction stands at PC, all its bytes in range. -/
def State.holdsInstr (s : State) (i : Instr) : Prop := s.holdsPrefix i i.length

/-- The fetch faults of an instruction (R151, R154, R156): where its first `k` bytes stand at PC and the next address
is out of range, the step leaves PC at that address with the OutOfRange record, whose byte is the opcode once it has
been fetched. -/
def fetchFaults (i : Instr) : Prop :=
  ∀ (s : State) (k : Nat), s.ended = false → k < i.length → s.holdsPrefix i k →
    indexOf s.cfg (s.pc + BitVec.ofNat 16 k) = none →
    step s = .next { s with
      pc := s.pc + BitVec.ofNat 16 k
      fault := some
        { kind := .outOfRange
          addr := s.pc + BitVec.ofNat 16 k
          byte := if k = 0 then none else some i.opcode } }

/-- The UnimplementedOpcode end of a run (R152). -/
def State.unimplementedAt (s : State) (op : Byte) : State :=
  { s with
    pc := s.pc + 1
    fault := some { kind := .unimplementedOpcode, addr := s.pc, byte := some op } }

/-! ### The encoding's numbers and the arithmetic in natural numbers -/

/-- The slot number of a register (R69). -/
def regNumber (r : Reg) : Nat :=
  match r with
  | .b => 0
  | .c => 1
  | .d => 2
  | .e => 3
  | .h => 4
  | .l => 5
  | .a => 7

/-- The slot number (R69). -/
def slotNumber (x : Slot) : Nat :=
  match x with
  | .reg r => regNumber r
  | .mem => 6

/-- The pair number (R70). -/
def pairNumber (rr : RegPair) : Nat :=
  match rr with
  | .bc => 0
  | .de => 1
  | .hl => 2
  | .sp => 3

/-- The pair number (R71). -/
def stackPairNumber (rr : StackPair) : Nat :=
  match rr with
  | .bc => 0
  | .de => 1
  | .hl => 2
  | .psw => 3

/-- The operation number (R72). -/
def aluNumber (op : AluOp) : Nat :=
  match op with
  | .add => 0
  | .adc => 1
  | .sub => 2
  | .sbb => 3
  | .ana => 4
  | .xra => 5
  | .ora => 6
  | .cmp => 7

/-- The condition number (R73). -/
def condNumber (cc : Cond) : Nat :=
  match cc with
  | .nz => 0
  | .z => 1
  | .nc => 2
  | .c => 3
  | .po => 4
  | .pe => 5
  | .p => 6
  | .m => 7

/-- R109 in natural numbers: the 8-bit result, and whether the 9-bit intermediate exceeds 255, which for a
subtraction is whether it borrows. `c` is CY as a number. -/
def aluNat (op : AluOp) (a v c : Nat) : Nat × Bool :=
  match op with
  | .add => ((a + v) % 256, decide (255 < a + v))
  | .adc => ((a + v + c) % 256, decide (255 < a + v + c))
  | .sub => ((a + 256 - v) % 256, decide (a < v))
  | .sbb => ((a + 512 - v - c) % 256, decide (a < v + c))
  | .ana => (a &&& v, false)
  | .xra => (a ^^^ v, false)
  | .ora => (a ||| v, false)
  | .cmp => ((a + 256 - v) % 256, decide (a < v))

/-- The carry flag for that second component: the borrow of SUB, SBB and CMP is inverted under
`SUB_CY_SENSE = not_borrow` (R109). -/
def carryOf (sense : SubCySense) (op : AluOp) (wide : Bool) : Bool :=
  match sense, op with
  | .notBorrow, .sub => !wide
  | .notBorrow, .sbb => !wide
  | .notBorrow, .cmp => !wide
  | _, _ => wide

/-- R16 in natural numbers: Z, S and P of a result below 256, with CY and AC as given. -/
def flagsOf (r : Nat) (cy ac : Bool) : Flags where
  s  := decide (128 ≤ r)
  z  := decide (r = 0)
  ac := ac
  p  := decide (((List.range 8).filter fun k => r.testBit k).length % 2 = 0)
  cy := cy

/-- The state after an ALU operation of `len` bytes on operand `v` (R109): A gets the result unless the operation is a
comparison; S, Z, P and CY are written, AC is not. -/
def State.afterAlu (s : State) (op : AluOp) (v : Byte) (len : Nat) : State :=
  let r := aluNat op s.regs.a.toNat v.toNat s.flags.cy.toNat
  { s with
    pc := s.pc + BitVec.ofNat 16 len
    regs := if op = .cmp then s.regs else { s.regs with a := BitVec.ofNat 8 r.1 }
    flags := flagsOf r.1 (carryOf s.cfg.subCySense op r.2) s.flags.ac }

/-- Whether an instruction's meaning may store to memory (R56, the rows that write). -/
def storesToMemory (i : Instr) : Prop :=
  (∃ r, i = .mov .mem (.reg r)) ∨ (∃ v, i = .mvi .mem v) ∨ (∃ r, i = .stax r) ∨ (∃ a, i = .sta a) ∨
    (∃ a, i = .shld a) ∨ (∃ rr, i = .push rr) ∨ i = .xthl ∨ i = .inr .mem ∨ i = .dcr .mem ∨
    (∃ a, i = .call a) ∨ (∃ cc a, i = .ccc cc a) ∨ (∃ n, i = .rst n)

/-- A control transfer, whose PC is not simply the next instruction's (R137-R144). -/
def transfersControl (i : Instr) : Prop :=
  (∃ cc, i = .rcc cc) ∨ i = .ret ∨ (∃ cc a, i = .jcc cc a) ∨ (∃ a, i = .jmp a) ∨ (∃ cc a, i = .ccc cc a) ∨
    (∃ a, i = .call a) ∨ (∃ n, i = .rst n) ∨ i = .pchl

end Sys2Proof.Machine
end

