-- ==== Sys2Proof/Certificates/Slice0/Obligations.lean ====
section
/-! DEFINITION. The statements for the provers. Each is about every state, and so, since the configuration is a field
of the state (log entry 1), about every configuration; a premise `s.mem.wf` or `s.wf` is the invariant of
`StateInvariantAtReset` and `EveryStepKeepsStateInvariant`. -/

open Sys2Proof Sys2Proof.Machine

/-! ### Encoding -/

/-- Decoding an encoded instruction gives it back, every operand at every value (R67, R75, R76). -/
def Obligations.DecodeOfEncodeIsIdentity : Prop :=
  ∀ (i : Instr) (rest : List Byte), decode (encode i ++ rest) = .ok (i, rest)

/-- Only an instruction's own bytes decode to it: no bit of an encoding is ignored (R67, R76, R79). -/
def Obligations.DecodedBytesAreTheEncoding : Prop :=
  ∀ (bytes : List Byte) (i : Instr) (rest : List Byte), decode bytes = .ok (i, rest) → bytes = encode i ++ rest

/-- The length the opcode byte gives, in the words of R80. -/
def Obligations.OpcodeByteFixesLength : Prop :=
  ∀ (op : Byte) (rest : List Byte) (n : Nat),
    n =
      (if op ∈ [0x01#8, 0x11#8, 0x21#8, 0x31#8, 0x22#8, 0x2A#8, 0x32#8, 0x3A#8, 0xC3#8, 0xCD#8] ∨
          (op.toNat / 64 = 3 ∧ (op.toNat % 8 = 2 ∨ op.toNat % 8 = 4)) then 3
        else if (op.toNat / 64 = 0 ∧ op.toNat % 8 = 6) ∨ (op.toNat / 64 = 3 ∧ op.toNat % 8 = 6) ∨
          op = 0xD3#8 ∨ op = 0xDB#8 then 2
        else 1) →
    (n ≤ rest.length + 1 →
      ∃ i, decode (op :: rest) = .ok (i, rest.drop (n - 1)) ∧ i.length = n ∧ i.opcode = op) ∧
    (rest.length + 1 < n → decode (op :: rest) = .error (.missingOperand op))

/-- Words written out from the spec's encodings, one or more for each format of R68. -/
def Obligations.SpecWordsDecode : Prop :=
  decode [0b01000001#8] = .ok (.movBC, []) ∧ decode [0b10101110#8] = .ok (.xraM, []) ∧
  decode [0b11000110#8, 0x03#8] = .ok (.adi 0x03#8, []) ∧ decode [0b00110101#8] = .ok (.dcrM, []) ∧
  decode [0b00111110#8, 0x05#8] = .ok (.mviA 0x05#8, []) ∧ decode [0b00101011#8] = .ok (.dcxH, []) ∧
  decode [0b00111001#8] = .ok (.dadSp, []) ∧ decode [0b00110001#8, 0x00#8, 0x24#8] = .ok (.lxiSp 0x2400#16, []) ∧
  decode [0b00011010#8] = .ok (.ldaxD, []) ∧ decode [0b00100010#8, 0xFF#8, 0x1F#8] = .ok (.shld 0x1FFF#16, []) ∧
  decode [0b11110101#8] = .ok (.pushPsw, []) ∧ decode [0b11011100#8, 0x10#8, 0x00#8] = .ok (.cc 0x0010#16, []) ∧
  decode [0b11010111#8] = .ok (.rst2, []) ∧ decode [0b11011011#8, 0x03#8] = .ok (.inp 0x03#8, []) ∧
  decode [0b01110110#8] = .ok (.hlt, []) ∧ decode [0b11101001#8] = .ok (.pchl, []) ∧
  decode [0b00100111#8] = .ok (.daa, []) ∧ decode [0b11011001#8] = .ok (.aliasD9, [])

/-! ### The step -/

/-- Where an instruction's bytes stand at PC, the step is `exec` of it at that state (which moves PC past the
instruction itself), and the iteration adds the host's turn (R150, R163). That every byte is fetched before `exec` is
the model's reading (log entry 5), and so is the timeline that holds the host's turns (log entry 3). -/
def Obligations.StepRunsDecodedInstruction : Prop :=
  ∀ (s : State) (i : Instr), s.ended = false → s.holdsInstr i →
    blockStep s = exec i s ∧ (∀ t, exec i s = .next t → step s = .next t.hostTurn)

/-- A run that has halted or faulted has no further step (R150, R19); the stop's name is the model's (log entry 4). -/
def Obligations.StepAfterEndOfRunStops : Prop :=
  ∀ s : State, (s.halted = true ∨ s.fault ≠ none) → step s = .fault .runEnded ∧ stepReport s = none

/-- The step, its port transfer, then the events in order, and none of them once the run has ended (R163): each event
has its effect, a tick that of `tick()`, a raise the state `raise(v)` leaves, a latch write that of `latchWrite(p, b)`.
The timeline that holds the events, past whose end the host does nothing, is the model's (log entry 3). That the host's `clearDirty()` comes after the events, and not once
the run has ended, is the model's reading (log entry 11); the spec says only that it comes between iterations. -/
def Obligations.IterationDrainsEventsInOrder : Prop :=
  ∀ (s t : State) (i : Instr), s.ended = false → s.holdsInstr i → exec i s = .next t →
    (t.ended = true → step s = .next t) ∧
    (t.ended = false → t.timeline = [] → step s = .next t) ∧
    (∀ (turn : HostTurn) (rest : List HostTurn), t.ended = false → t.timeline = turn :: rest →
      ∃ u, step s = .next u ∧
        u = (if turn.clearDirty = true ∧ (State.drain { t with timeline := rest } turn.events).ended = false
          then { State.drain { t with timeline := rest } turn.events with dirty := false }
          else State.drain { t with timeline := rest } turn.events)) ∧
    (∀ (w : State) (es fs : List HostEvent), w.fault = none →
      w.drain (es ++ fs) = if (w.drain es).fault = none then (w.drain es).drain fs else w.drain es) ∧
    (∀ (w : State), w.drain [] = w ∧ (∀ e, w.drain [e] = w.handle e) ∧ w.handle .tick = w.tick ∧
      (∀ (v : Nat) (u : State), w.raise v = .lost u ∨ w.raise v = .delivered u ∨ w.raise v = .faulted u →
        w.handle (.raise v) = u) ∧
      (∀ p b, w.handle (.latch p b) = w.latchWrite p b))

/-- Every fetch that is out of range faults at its own address, the opcode's with no byte recorded and an operand's
with the opcode; the PC advances of the fetches before it stand (R151, R154, R156; the spec marks them as its own
decision D6 and its own derivation). -/
def Obligations.FetchesOutOfRangeFault : Prop :=
  ∀ i : Instr, fetchFaults i

/-- The opcode values of R78 are exactly the rows that are no instruction, and each ends the run as R152 says: PC one
past the opcode, the record of its address and byte, nothing else changed (the spec's decisions D12 to D14 and D24). -/
def Obligations.UnimplementedOpcodesFault : Prop :=
  ∀ (s : State) (i : Instr),
    (i.wf s.cfg = false ↔
      i.opcode ∈ [0x08#8, 0x10#8, 0x18#8, 0x20#8, 0x28#8, 0x30#8, 0x38#8, 0xCB#8, 0xD9#8, 0xDD#8, 0xED#8, 0xFD#8,
        0x27#8] ∨ (i.opcode = 0xE9#8 ∧ s.cfg.enablePchl = false)) ∧
    (i.wf s.cfg = false →
      encode i = [i.opcode] ∧ exec i s = .next (s.unimplementedAt i.opcode) ∧
      (s.ended = false → s.holdsInstr i →
        step s = .next (s.unimplementedAt i.opcode) ∧
        stepReport s = some (.fault { kind := .unimplementedOpcode, addr := s.pc, byte := some i.opcode })))

/-! ### Data transfer -/

/-- NOP changes PC alone; MOV r1,r2 copies a register and changes nothing else, and no fault arises (R82, R83). -/
def Obligations.NopAndRegisterMoves : Prop :=
  ∀ (s : State) (dst src : Reg),
    encode .nop = [0x00#8] ∧ exec .nop s = .next { s with pc := s.pc + 1 } ∧
    encode (.mov (.reg dst) (.reg src)) = [BitVec.ofNat 8 (0x40 + 8 * regNumber dst + regNumber src)] ∧
    exec (.mov (.reg dst) (.reg src)) s =
      .next { s with regs := s.regs.set dst (s.regs.get src), pc := s.pc + 1 }

/-- MOV r,M (R84). -/
def Obligations.MoveFromMemory : Prop :=
  ∀ (s : State) (dst : Reg),
    encode (.mov (.reg dst) .mem) = [BitVec.ofNat 8 (0x46 + 8 * regNumber dst)] ∧
    (∀ k, indexOf s.cfg s.regs.hl = some k →
      exec (.mov (.reg dst) .mem) s = .next { s with regs := s.regs.set dst (s.mem.read k), pc := s.pc + 1 }) ∧
    (indexOf s.cfg s.regs.hl = none → ∃ t, exec (.mov (.reg dst) .mem) s = .next t ∧
      State.outOfRangeAt { s with pc := s.pc + 1 } t s.regs.hl (some (BitVec.ofNat 8 (0x46 + 8 * regNumber dst))))

/-- MOV M,r stores through the gate at HL, and nothing else changes (R85). -/
def Obligations.MoveToMemory : Prop :=
  ∀ (s : State) (r : Reg), s.mem.wf = true →
    encode (.mov .mem (.reg r)) = [BitVec.ofNat 8 (0x70 + regNumber r)] ∧
    (indexOf s.cfg s.regs.hl ≠ none → ∃ t, exec (.mov .mem (.reg r)) s = .next t ∧
      State.gateWrote { s with pc := s.pc + 1 } t s.regs.hl (s.regs.get r)) ∧
    (indexOf s.cfg s.regs.hl = none → ∃ t, exec (.mov .mem (.reg r)) s = .next t ∧
      State.outOfRangeAt { s with pc := s.pc + 1 } t s.regs.hl (some (BitVec.ofNat 8 (0x70 + regNumber r))))

/-- MVI r and MVI M (R86, R87). -/
def Obligations.MoveImmediate : Prop :=
  ∀ (s : State) (r : Reg) (v : Byte), s.mem.wf = true →
    encode (.mvi (.reg r) v) = [BitVec.ofNat 8 (0x06 + 8 * regNumber r), v] ∧
    exec (.mvi (.reg r) v) s = .next { s with regs := s.regs.set r v, pc := s.pc + 2 } ∧
    encode (.mvi .mem v) = [0x36#8, v] ∧
    (indexOf s.cfg s.regs.hl ≠ none → ∃ t, exec (.mvi .mem v) s = .next t ∧
      State.gateWrote { s with pc := s.pc + 2 } t s.regs.hl v) ∧
    (indexOf s.cfg s.regs.hl = none → ∃ t, exec (.mvi .mem v) s = .next t ∧
      State.outOfRangeAt { s with pc := s.pc + 2 } t s.regs.hl (some 0x36#8)) ∧
    fetchFaults (.mvi (.reg r) v) ∧ fetchFaults (.mvi .mem v)

/-- LXI: the pair's high register gets bits 15..8 of the word, or SP the word (R88). -/
def Obligations.LoadPairImmediate : Prop :=
  ∀ (s : State) (v : Word) (rr : RegPair),
    encode (.lxi rr v) = [BitVec.ofNat 8 (0x01 + 16 * pairNumber rr), v.setWidth 8, (v >>> 8).setWidth 8] ∧
    exec (.lxiB v) s =
      .next { s with regs := { s.regs with b := (v >>> 8).setWidth 8, c := v.setWidth 8 }, pc := s.pc + 3 } ∧
    exec (.lxiD v) s =
      .next { s with regs := { s.regs with d := (v >>> 8).setWidth 8, e := v.setWidth 8 }, pc := s.pc + 3 } ∧
    exec (.lxiH v) s =
      .next { s with regs := { s.regs with h := (v >>> 8).setWidth 8, l := v.setWidth 8 }, pc := s.pc + 3 } ∧
    exec (.lxiSp v) s = .next { s with sp := v, pc := s.pc + 3 } ∧
    fetchFaults (.lxi rr v)

/-- LDAX and LDA load A from BC, DE or the operand address (R89, R91). -/
def Obligations.LoadAccumulator : Prop :=
  ∀ (s : State) (i : Instr) (a : Addr) (len : Nat),
    (i = .ldaxB ∧ a = s.regs.b ++ s.regs.c ∧ len = 1) ∨ (i = .ldaxD ∧ a = s.regs.d ++ s.regs.e ∧ len = 1) ∨
      (i = .lda a ∧ len = 3) →
    encode .ldaxB = [0x0A#8] ∧ encode .ldaxD = [0x1A#8] ∧
    encode (.lda a) = [0x3A#8, a.setWidth 8, (a >>> 8).setWidth 8] ∧
    (∀ k, indexOf s.cfg a = some k →
      exec i s = .next { s with regs := { s.regs with a := s.mem.read k }, pc := s.pc + BitVec.ofNat 16 len }) ∧
    (indexOf s.cfg a = none → ∃ t, exec i s = .next t ∧
      State.outOfRangeAt { s with pc := s.pc + BitVec.ofNat 16 len } t a (some i.opcode)) ∧
    fetchFaults i

/-- STAX and STA store A through the gate at BC, DE or the operand address, and nothing else changes (R90, R92). -/
def Obligations.StoreAccumulator : Prop :=
  ∀ (s : State) (i : Instr) (a : Addr) (len : Nat), s.mem.wf = true →
    (i = .staxB ∧ a = s.regs.b ++ s.regs.c ∧ len = 1) ∨ (i = .staxD ∧ a = s.regs.d ++ s.regs.e ∧ len = 1) ∨
      (i = .sta a ∧ len = 3) →
    encode .staxB = [0x02#8] ∧ encode .staxD = [0x12#8] ∧
    encode (.sta a) = [0x32#8, a.setWidth 8, (a >>> 8).setWidth 8] ∧
    (indexOf s.cfg a ≠ none → ∃ t, exec i s = .next t ∧
      State.gateWrote { s with pc := s.pc + BitVec.ofNat 16 len } t a s.regs.a) ∧
    (indexOf s.cfg a = none → ∃ t, exec i s = .next t ∧
      State.outOfRangeAt { s with pc := s.pc + BitVec.ofNat 16 len } t a (some i.opcode)) ∧
    fetchFaults i

/-- LHLD: L from the operand address, H from the next (R93). Which address the record holds where both are out of
range is the model's reading (log entry 7). -/
def Obligations.LoadHlDirect : Prop :=
  ∀ (s : State) (a : Addr),
    encode (.lhld a) = [0x2A#8, a.setWidth 8, (a >>> 8).setWidth 8] ∧
    (∀ k k', indexOf s.cfg a = some k → indexOf s.cfg (a + 1) = some k' →
      exec (.lhld a) s =
        .next { s with regs := { s.regs with l := s.mem.read k, h := s.mem.read k' }, pc := s.pc + 3 }) ∧
    (indexOf s.cfg a = none → ∃ t, exec (.lhld a) s = .next t ∧
      State.outOfRangeAt { s with pc := s.pc + 3 } t a (some 0x2A#8)) ∧
    (indexOf s.cfg a ≠ none → indexOf s.cfg (a + 1) = none → ∃ t, exec (.lhld a) s = .next t ∧
      State.outOfRangeAt { s with pc := s.pc + 3 } t (a + 1) (some 0x2A#8)) ∧
    fetchFaults (.lhld a)

/-- SHLD: L at the operand address, then H at the next, each through the gate (R94). -/
def Obligations.StoreHlDirect : Prop :=
  ∀ (s : State) (a : Addr), s.mem.wf = true →
    encode (.shld a) = [0x22#8, a.setWidth 8, (a >>> 8).setWidth 8] ∧
    (indexOf s.cfg a ≠ none → indexOf s.cfg (a + 1) ≠ none → ∃ t, exec (.shld a) s = .next t ∧
      State.gateWroteWord { s with pc := s.pc + 3 } t a (s.regs.h ++ s.regs.l)) ∧
    (indexOf s.cfg a = none ∨ indexOf s.cfg (a + 1) = none → ∃ t, exec (.shld a) s = .next t ∧
      State.wordWriteFaulted { s with pc := s.pc + 3 } t a (s.regs.h ++ s.regs.l) (some 0x22#8)) ∧
    fetchFaults (.shld a)

/-! ### Stack and exchange -/

/-- PUSH: SP falls by 2 and the pair, or A and the flags byte, is stored there through the gate (R95, R98, R99). -/
def Obligations.PushStoresBelowStackPointer : Prop :=
  ∀ (s : State) (rr : StackPair) (v : Word), s.mem.wf = true →
    v = (match rr with
      | .bc => s.regs.b ++ s.regs.c
      | .de => s.regs.d ++ s.regs.e
      | .hl => s.regs.h ++ s.regs.l
      | .psw => s.regs.a ++ s.flags.byte) →
    encode (.push rr) = [BitVec.ofNat 8 (0xC5 + 16 * stackPairNumber rr)] ∧
    (indexOf s.cfg (s.sp - 2) ≠ none → indexOf s.cfg (s.sp - 1) ≠ none → ∃ t, exec (.push rr) s = .next t ∧
      State.gateWroteWord { s with sp := s.sp - 2, pc := s.pc + 1 } t (s.sp - 2) v) ∧
    (indexOf s.cfg (s.sp - 2) = none ∨ indexOf s.cfg (s.sp - 1) = none → ∃ t, exec (.push rr) s = .next t ∧
      State.wordWriteFaulted { s with sp := s.sp - 2, pc := s.pc + 1 } t (s.sp - 2) v
        (some (BitVec.ofNat 8 (0xC5 + 16 * stackPairNumber rr))))

/-- POP: the low byte from SP, the high byte from SP + 1, SP rises by 2; POP PSW writes A and all five flags
(R96, R100, R101). Which address the record holds where both are out of range is the model's reading (log entry 7). -/
def Obligations.PopLoadsFromStackPointer : Prop :=
  ∀ (s : State) (rr : StackPair),
    encode (.pop rr) = [BitVec.ofNat 8 (0xC1 + 16 * stackPairNumber rr)] ∧
    (∀ k k', indexOf s.cfg s.sp = some k → indexOf s.cfg (s.sp + 1) = some k' →
      exec (.pop rr) s = .next { s with
        sp := s.sp + 2
        pc := s.pc + 1
        regs := match rr with
          | .bc => { s.regs with b := s.mem.read k', c := s.mem.read k }
          | .de => { s.regs with d := s.mem.read k', e := s.mem.read k }
          | .hl => { s.regs with h := s.mem.read k', l := s.mem.read k }
          | .psw => { s.regs with a := s.mem.read k' }
        flags := match rr with
          | .psw =>
            { s := (s.mem.read k).getLsbD 7
              z := (s.mem.read k).getLsbD 6
              ac := (s.mem.read k).getLsbD 4
              p := (s.mem.read k).getLsbD 2
              cy := (s.mem.read k).getLsbD 0 }
          | _ => s.flags }) ∧
    (indexOf s.cfg s.sp = none → ∃ t, exec (.pop rr) s = .next t ∧
      State.outOfRangeAt { s with pc := s.pc + 1 } t s.sp (some (.pop rr : Instr).opcode)) ∧
    (indexOf s.cfg s.sp ≠ none → indexOf s.cfg (s.sp + 1) = none → ∃ t, exec (.pop rr) s = .next t ∧
      State.outOfRangeAt { s with pc := s.pc + 1 } t (s.sp + 1) (some (.pop rr : Instr).opcode))

/-- Push then pop restores the pair, and A and all five flags for PSW, where both bytes are writable and in range; a
push into the protected region leaves what the pop reads (R97). -/
def Obligations.PushThenPopRestores : Prop :=
  ∀ (s : State) (rr : StackPair), s.wf = true →
    (s.sp - 2).toNat < s.cfg.memSize → (s.sp - 1).toNat < s.cfg.memSize →
    ∃ t u, exec (.push rr) s = .next t ∧ exec (.pop rr) t = .next u ∧ u.sp = s.sp ∧
      (s.cfg.protectLimit ≤ (s.sp - 2).toNat → s.cfg.protectLimit ≤ (s.sp - 1).toNat →
        u.regs = s.regs ∧ u.flags = s.flags) ∧
      ((s.sp - 2).toNat < s.cfg.protectLimit → (s.sp - 1).toNat < s.cfg.protectLimit →
        (u.stackPair rr).low =
            (if rr = .psw then (s.mem.read (s.sp - 2).toNat &&& 0xD5#8) ||| 0x02#8
              else s.mem.read (s.sp - 2).toNat) ∧
          (u.stackPair rr).high = s.mem.read (s.sp - 1).toNat)

/-- XCHG swaps DE and HL; SPHL copies HL into SP (R102, R104). -/
def Obligations.ExchangeAndCopyPairs : Prop :=
  ∀ s : State,
    encode .xchg = [0xEB#8] ∧ encode .sphl = [0xF9#8] ∧
    exec .xchg s = .next { s with
      regs := { s.regs with d := s.regs.h, e := s.regs.l, h := s.regs.d, l := s.regs.e }
      pc := s.pc + 1 } ∧
    exec .sphl s = .next { s with sp := s.regs.h ++ s.regs.l, pc := s.pc + 1 }

/-- XTHL: HL gets the two bytes at SP, which get L and H through the gate; SP stays; a read fault comes before any
write (R103). Which address the record holds where both are out of range is the model's reading (log entry 7). -/
def Obligations.ExchangeStackTop : Prop :=
  ∀ s : State, s.mem.wf = true →
    encode .xthl = [0xE3#8] ∧
    (∀ k k', indexOf s.cfg s.sp = some k → indexOf s.cfg (s.sp + 1) = some k' →
      ∃ t u, exec .xthl s = .next t ∧
        State.gateWroteWord { s with pc := s.pc + 1 } u s.sp (s.regs.h ++ s.regs.l) ∧
        t = { u with regs := { s.regs with h := s.mem.read k', l := s.mem.read k } }) ∧
    (indexOf s.cfg s.sp = none → ∃ t, exec .xthl s = .next t ∧
      State.outOfRangeAt { s with pc := s.pc + 1 } t s.sp (some 0xE3#8)) ∧
    (indexOf s.cfg s.sp ≠ none → indexOf s.cfg (s.sp + 1) = none → ∃ t, exec .xthl s = .next t ∧
      State.outOfRangeAt { s with pc := s.pc + 1 } t (s.sp + 1) (some 0xE3#8))

/-! ### Arithmetic and logic -/

/-- A pair and its two registers are one storage, high register first (R21); each of the seven registers is its own
field, reads back what was written to it, and is left alone by a write to another (R20). -/
def Obligations.PairsAreTheirRegisters : Prop :=
  ∀ (s : State) (rr : RegPair) (v : Word) (r : Reg) (y : Byte),
    (s.regs.get .a = s.regs.a ∧ s.regs.get .b = s.regs.b ∧ s.regs.get .c = s.regs.c ∧ s.regs.get .d = s.regs.d ∧
      s.regs.get .e = s.regs.e ∧ s.regs.get .h = s.regs.h ∧ s.regs.get .l = s.regs.l) ∧
    (s.regs.set r y).get r = y ∧ (∀ q, q ≠ r → (s.regs.set r y).get q = s.regs.get q) ∧
    s.setReg r y = { s with regs := s.regs.set r y } ∧
    s.pair .bc = BitVec.ofNat 16 (256 * s.regs.b.toNat + s.regs.c.toNat) ∧
    s.pair .de = BitVec.ofNat 16 (256 * s.regs.d.toNat + s.regs.e.toNat) ∧
    s.pair .hl = BitVec.ofNat 16 (256 * s.regs.h.toNat + s.regs.l.toNat) ∧
    (s.setPair rr v).pair rr = v ∧ (∀ q, q ≠ rr → (s.setPair rr v).pair q = s.pair q) ∧
    ((s.setPair .hl v).regs.h.toNat = v.toNat / 256 ∧ (s.setPair .hl v).regs.l.toNat = v.toNat % 256) ∧
    (∀ w, (s.setReg .h w).pair .hl = BitVec.ofNat 16 (256 * w.toNat + s.regs.l.toNat))

/-- INX and DCX add or subtract 1 modulo 2^16 and write no flag (R106, R107). -/
def Obligations.IncrementDecrementPair : Prop :=
  ∀ (s : State) (rr : RegPair),
    encode (.inx rr) = [BitVec.ofNat 8 (0x03 + 16 * pairNumber rr)] ∧
    encode (.dcx rr) = [BitVec.ofNat 8 (0x0B + 16 * pairNumber rr)] ∧
    exec (.inx rr) s =
      .next (State.setPair { s with pc := s.pc + 1 } rr (BitVec.ofNat 16 ((s.pair rr).toNat + 1))) ∧
    exec (.dcx rr) s =
      .next (State.setPair { s with pc := s.pc + 1 } rr (BitVec.ofNat 16 ((s.pair rr).toNat + 0xFFFF)))

/-- DAD: HL gets the sum modulo 2^16, CY whether it exceeds 65535, no other flag changes (R108). -/
def Obligations.DoubleAdd : Prop :=
  ∀ (s : State) (rr : RegPair) (n : Nat), n = (s.pair .hl).toNat + (s.pair rr).toNat →
    encode (.dad rr) = [BitVec.ofNat 8 (0x09 + 16 * pairNumber rr)] ∧
    exec (.dad rr) s =
      .next (State.setPair { s with pc := s.pc + 1, flags := { s.flags with cy := decide (65535 < n) } } .hl
        (BitVec.ofNat 16 n))

/-- The eight ALU operations on a register or on the byte at HL (R109-R117). -/
def Obligations.AluOnSlot : Prop :=
  ∀ (s : State) (op : AluOp),
    (∀ x, encode (.alu op x) = [BitVec.ofNat 8 (0x80 + 8 * aluNumber op + slotNumber x)]) ∧
    (∀ r, exec (.alu op (.reg r)) s = .next (s.afterAlu op (s.regs.get r) 1)) ∧
    (∀ k, indexOf s.cfg s.regs.hl = some k → exec (.alu op .mem) s = .next (s.afterAlu op (s.mem.read k) 1)) ∧
    (indexOf s.cfg s.regs.hl = none → ∃ t, exec (.alu op .mem) s = .next t ∧
      State.outOfRangeAt { s with pc := s.pc + 1 } t s.regs.hl (some (BitVec.ofNat 8 (0x86 + 8 * aluNumber op))))

/-- The eight ALU operations on an operand byte (R118-R125). -/
def Obligations.AluOnImmediate : Prop :=
  ∀ (s : State) (op : AluOp) (v : Byte),
    encode (.aluImm op v) = [BitVec.ofNat 8 (0xC6 + 8 * aluNumber op), v] ∧
    exec (.aluImm op v) s = .next (s.afterAlu op v 2) ∧ fetchFaults (.aluImm op v)

/-- The four rotates write A and CY only (R126-R129). -/
def Obligations.RotateAccumulator : Prop :=
  ∀ (s : State) (a c : Nat), a = s.regs.a.toNat → c = s.flags.cy.toNat →
    (encode .rlc = [0x07#8] ∧ encode .rrc = [0x0F#8] ∧ encode .ral = [0x17#8] ∧ encode .rar = [0x1F#8]) ∧
    exec .rlc s = .next { s with
      regs := { s.regs with a := BitVec.ofNat 8 (2 * a % 256 + a / 128) }
      flags := { s.flags with cy := decide (128 ≤ a) }, pc := s.pc + 1 } ∧
    exec .rrc s = .next { s with
      regs := { s.regs with a := BitVec.ofNat 8 (a / 2 + 128 * (a % 2)) }
      flags := { s.flags with cy := decide (a % 2 = 1) }, pc := s.pc + 1 } ∧
    exec .ral s = .next { s with
      regs := { s.regs with a := BitVec.ofNat 8 (2 * a % 256 + c) }
      flags := { s.flags with cy := decide (128 ≤ a) }, pc := s.pc + 1 } ∧
    exec .rar s = .next { s with
      regs := { s.regs with a := BitVec.ofNat 8 (a / 2 + 128 * c) }
      flags := { s.flags with cy := decide (a % 2 = 1) }, pc := s.pc + 1 }

/-- CMA complements A and writes no flag; CMC and STC write CY alone (R130-R132). -/
def Obligations.ComplementAndCarryToggles : Prop :=
  ∀ s : State,
    encode .cma = [0x2F#8] ∧ encode .cmc = [0x3F#8] ∧ encode .stc = [0x37#8] ∧
    exec .cma s = .next { s with
      regs := { s.regs with a := BitVec.ofNat 8 (255 - s.regs.a.toNat) }, pc := s.pc + 1 } ∧
    exec .cmc s = .next { s with flags := { s.flags with cy := !s.flags.cy }, pc := s.pc + 1 } ∧
    exec .stc s = .next { s with flags := { s.flags with cy := true }, pc := s.pc + 1 }

/-- INR and DCR of a register or of the byte at HL: S, Z and P of the result, CY and AC unchanged, the flags written
even where the gate drops the byte (R133, R134). -/
def Obligations.IncrementDecrementSlot : Prop :=
  ∀ (s : State) (up : Bool) (old new : Nat), s.mem.wf = true →
    new = (if up then (old + 1) % 256 else (old + 255) % 256) →
    (∀ x, encode (.inr x) = [BitVec.ofNat 8 (0x04 + 8 * slotNumber x)] ∧
      encode (.dcr x) = [BitVec.ofNat 8 (0x05 + 8 * slotNumber x)]) ∧
    (∀ r, (s.regs.get r).toNat = old →
      exec (if up then .inr (.reg r) else .dcr (.reg r)) s = .next { s with
        regs := s.regs.set r (BitVec.ofNat 8 new)
        flags := flagsOf new s.flags.cy s.flags.ac, pc := s.pc + 1 }) ∧
    (∀ k, indexOf s.cfg s.regs.hl = some k → (s.mem.read k).toNat = old →
      ∃ t u, exec (if up then .inr .mem else .dcr .mem) s = .next t ∧
        State.gateWrote { s with pc := s.pc + 1 } u s.regs.hl (BitVec.ofNat 8 new) ∧
        t = { u with flags := flagsOf new s.flags.cy s.flags.ac }) ∧
    (indexOf s.cfg s.regs.hl = none → ∃ t, exec (if up then .inr .mem else .dcr .mem) s = .next t ∧
      State.outOfRangeAt { s with pc := s.pc + 1 } t s.regs.hl (some (if up then 0x34#8 else 0x35#8)))

/-! ### Control transfer -/

/-- The condition table, RET, and Rcc taken and not taken (R135, R137, R138). Which address the record holds where both
are out of range is the model's reading (log entry 7). -/
def Obligations.Returns : Prop :=
  ∀ (s : State) (cc : Cond),
    (∀ f : Flags, f.cond .nz = !f.z ∧ f.cond .z = f.z ∧ f.cond .nc = !f.cy ∧ f.cond .c = f.cy ∧
      f.cond .po = !f.p ∧ f.cond .pe = f.p ∧ f.cond .p = !f.s ∧ f.cond .m = f.s) ∧
    encode (.rcc cc) = [BitVec.ofNat 8 (0xC0 + 8 * condNumber cc)] ∧ encode .ret = [0xC9#8] ∧
    (s.flags.cond cc = false → exec (.rcc cc) s = .next { s with pc := s.pc + 1 }) ∧
    (∀ i, i = .ret ∨ (i = .rcc cc ∧ s.flags.cond cc = true) →
      (∀ k k', indexOf s.cfg s.sp = some k → indexOf s.cfg (s.sp + 1) = some k' →
        exec i s = .next { s with pc := s.mem.read k' ++ s.mem.read k, sp := s.sp + 2 }) ∧
      (indexOf s.cfg s.sp = none → ∃ t, exec i s = .next t ∧
        State.outOfRangeAt { s with pc := s.pc + 1 } t s.sp (some i.opcode)) ∧
      (indexOf s.cfg s.sp ≠ none → indexOf s.cfg (s.sp + 1) = none → ∃ t, exec i s = .next t ∧
        State.outOfRangeAt { s with pc := s.pc + 1 } t (s.sp + 1) (some i.opcode)))

/-- JMP and Jcc: PC is the target when taken, and the opcode's address plus 3 otherwise; nothing else changes
(R139, R140). -/
def Obligations.Jumps : Prop :=
  ∀ (s : State) (cc : Cond) (a : Addr),
    encode (.jcc cc a) = [BitVec.ofNat 8 (0xC2 + 8 * condNumber cc), a.setWidth 8, (a >>> 8).setWidth 8] ∧
    encode (.jmp a) = [0xC3#8, a.setWidth 8, (a >>> 8).setWidth 8] ∧
    exec (.jcc cc a) s = .next { s with pc := if s.flags.cond cc then a else s.pc + 3 } ∧
    exec (.jmp a) s = .next { s with pc := a } ∧
    fetchFaults (.jcc cc a) ∧ fetchFaults (.jmp a)

/-- CALL and Ccc: taken, they push the address after the instruction and go to the target; not taken, Ccc advances PC
by 3 and touches neither SP nor memory (R141, R142). -/
def Obligations.Calls : Prop :=
  ∀ (s : State) (cc : Cond) (a : Addr), s.mem.wf = true →
    encode (.ccc cc a) = [BitVec.ofNat 8 (0xC4 + 8 * condNumber cc), a.setWidth 8, (a >>> 8).setWidth 8] ∧
    encode (.call a) = [0xCD#8, a.setWidth 8, (a >>> 8).setWidth 8] ∧
    (s.flags.cond cc = false → exec (.ccc cc a) s = .next { s with pc := s.pc + 3 }) ∧
    (∀ i, i = .call a ∨ (i = .ccc cc a ∧ s.flags.cond cc = true) →
      (indexOf s.cfg (s.sp - 2) ≠ none → indexOf s.cfg (s.sp - 1) ≠ none → ∃ t u, exec i s = .next t ∧
        State.gateWroteWord { s with sp := s.sp - 2, pc := s.pc + 3 } u (s.sp - 2) (s.pc + 3) ∧
        t = { u with pc := a }) ∧
      (indexOf s.cfg (s.sp - 2) = none ∨ indexOf s.cfg (s.sp - 1) = none → ∃ t, exec i s = .next t ∧
        State.wordWriteFaulted { s with sp := s.sp - 2, pc := s.pc + 3 } t (s.sp - 2) (s.pc + 3)
          (some i.opcode))) ∧
    fetchFaults (.ccc cc a) ∧ fetchFaults (.call a)

/-- RST n pushes the address after it and goes to 8 times n, whatever the flags; IME stays (R143). -/
def Obligations.Restarts : Prop :=
  ∀ (s : State) (n : Nat), s.mem.wf = true → n < 8 →
    encode (.rst n) = [BitVec.ofNat 8 (0xC7 + 8 * n)] ∧
    (indexOf s.cfg (s.sp - 2) ≠ none → indexOf s.cfg (s.sp - 1) ≠ none → ∃ t u, exec (.rst n) s = .next t ∧
      State.gateWroteWord { s with sp := s.sp - 2, pc := s.pc + 1 } u (s.sp - 2) (s.pc + 1) ∧
      t = { u with pc := BitVec.ofNat 16 (8 * n) }) ∧
    (indexOf s.cfg (s.sp - 2) = none ∨ indexOf s.cfg (s.sp - 1) = none → ∃ t, exec (.rst n) s = .next t ∧
      State.wordWriteFaulted { s with sp := s.sp - 2, pc := s.pc + 1 } t (s.sp - 2) (s.pc + 1)
        (some (BitVec.ofNat 8 (0xC7 + 8 * n))))

/-- A call, a taken conditional call or an RST, then RET, comes back to the instruction after it with SP as before,
where the two stack bytes are writable and in range (R97, R143). -/
def Obligations.CallThenReturnComesBack : Prop :=
  ∀ (s : State) (i : Instr), s.wf = true →
    (∃ a, i = .call a) ∨ (∃ cc a, i = .ccc cc a ∧ s.flags.cond cc = true) ∨ (∃ n, i = .rst n) →
    (s.sp - 2).toNat < s.cfg.memSize → (s.sp - 1).toNat < s.cfg.memSize →
    s.cfg.protectLimit ≤ (s.sp - 2).toNat → s.cfg.protectLimit ≤ (s.sp - 1).toNat →
    ∃ t u, exec i s = .next t ∧ exec .ret t = .next u ∧
      u.pc = s.pc + BitVec.ofNat 16 i.length ∧ u.sp = s.sp ∧ u.regs = s.regs ∧ u.flags = s.flags

/-- PCHL: PC gets HL where `ENABLE_PCHL` is true, and UnimplementedOpcode is taken where it is false (R144, which the
spec marks as its decision D13). -/
def Obligations.JumpToHl : Prop :=
  ∀ s : State, encode .pchl = [0xE9#8] ∧
    (s.cfg.enablePchl = true → exec .pchl s = .next { s with pc := s.regs.h ++ s.regs.l }) ∧
    (s.cfg.enablePchl = false → exec .pchl s = .next (s.unimplementedAt 0xE9#8))

/-! ### Interrupt toggles, ports, halt -/

/-- EI and DI write IME and change PC and nothing else; at once, in the state EI leaves no raise answers lost (it is
delivered, or it faults), and in the state DI leaves every raise of a vector below 8 is lost and changes nothing
(R145, R146; that it is at once is the spec's decision D22). -/
def Obligations.InterruptToggles : Prop :=
  ∀ s : State,
    encode .ei = [0xFB#8] ∧ encode .di = [0xF3#8] ∧
    exec .ei s = .next { s with ime := true, pc := s.pc + 1 } ∧
    exec .di s = .next { s with ime := false, pc := s.pc + 1 } ∧
    (∀ v u, State.raise { s with ime := true, pc := s.pc + 1 } v ≠ .lost u) ∧
    (∀ v, v < 8 → State.raise { s with ime := false, pc := s.pc + 1 } v =
      .lost { s with ime := false, pc := s.pc + 1 })

/-- IN: the step continues with `In(p)` and PC two on, and the transfer puts the port's byte in A: the constant, the
buttons latch, the shifted byte, or 0 (R147, R166). The state after `exec` holds the transfer too (log entry 6). -/
def Obligations.InputFromPort : Prop :=
  ∀ (s : State) (p v : Byte), s.cfg.wf = true →
    v = (if p = s.cfg.portInPresent then s.cfg.presentValue
      else if p = s.cfg.portInButtons then s.latch.read s.cfg.portInButtons.toNat
      else if p = s.cfg.portInShift then
        BitVec.ofNat 8 ((256 * s.shifter.hi.toNat + s.shifter.lo.toNat) / 2 ^ (8 - s.shifter.off.toNat))
      else 0) →
    encode (.inp p) = [0xDB#8, p] ∧
    exec (.inp p) s = .next { s with regs := { s.regs with a := v }, pc := s.pc + 2 } ∧
    (s.ended = false → s.holdsInstr (.inp p) → stepReport s = some (.continue (.inp p))) ∧
    fetchFaults (.inp p)

/-- OUT: the step continues with `Out(p, A)` and PC two on, and the transfer writes the shift offset, shifts A in, or
does nothing (R148, R167, R168). The state after `exec` holds the transfer too (log entry 6). -/
def Obligations.OutputToPort : Prop :=
  ∀ (s : State) (p : Byte), s.cfg.wf = true →
    encode (.out p) = [0xD3#8, p] ∧
    exec (.out p) s = .next { s with
      pc := s.pc + 2
      shifter :=
        if p = s.cfg.portOutShiftData then { s.shifter with hi := s.regs.a, lo := s.shifter.hi }
        else if p = s.cfg.portOutShiftOffset then { s.shifter with off := BitVec.ofNat 3 (s.regs.a.toNat % 8) }
        else s.shifter } ∧
    (s.ended = false → s.holdsInstr (.out p) → stepReport s = some (.continue (.out p s.regs.a))) ∧
    fetchFaults (.out p)

/-- HLT: `halted` is set, PC is one past the opcode, nothing else changes, the step reports Halted and nothing follows
in its iteration (R149; that nothing follows is the spec's decision D23). -/
def Obligations.Halt : Prop :=
  ∀ s : State, encode .hlt = [0x76#8] ∧ exec .hlt s = .next { s with halted := true, pc := s.pc + 1 } ∧
    (s.ended = false → s.holdsInstr .hlt →
      stepReport s = some .halted ∧ step s = .next { s with halted := true, pc := s.pc + 1 })

/-! ### Interrupts and the host -/

/-- `raise(v)`: a vector above 7 faults; with IME 0 the interrupt is lost; otherwise PC is pushed through the gate, PC
becomes 8 times v and IME is cleared (R158). -/
def Obligations.RaiseDeliversOrLoses : Prop :=
  ∀ (s : State) (v : Nat), s.mem.wf = true →
    (7 < v → s.raise v = .faulted { s with
      fault := some { kind := .invalidInternalSelector, addr := s.pc, byte := some (BitVec.ofNat 8 (v % 256)) } }) ∧
    (v ≤ 7 → s.ime = false → s.raise v = .lost s) ∧
    (v ≤ 7 → s.ime = true → indexOf s.cfg (s.sp - 2) ≠ none → indexOf s.cfg (s.sp - 1) ≠ none →
      ∃ t u, s.raise v = .delivered t ∧ State.gateWroteWord { s with sp := s.sp - 2 } u (s.sp - 2) s.pc ∧
        t = { u with pc := BitVec.ofNat 16 (8 * v), ime := false }) ∧
    (v ≤ 7 → s.ime = true → indexOf s.cfg (s.sp - 2) = none ∨ indexOf s.cfg (s.sp - 1) = none →
      ∃ t, s.raise v = .faulted t ∧ State.wordWriteFaulted { s with sp := s.sp - 2 } t (s.sp - 2) s.pc none)

/-- `tick()` raises `VEC_B` after `VEC_A` and `VEC_A` otherwise, and moves the marker on delivery, or on every tick
that does not fault under `ALT_ADVANCE = on_tick` (R160). -/
def Obligations.TickAlternatesVectors : Prop :=
  ∀ (s : State) (v : BitVec 3), v = (if s.altLast = s.cfg.vecA then s.cfg.vecB else s.cfg.vecA) →
    (∀ t, s.raise v.toNat = .delivered t → s.tick = { t with altLast := v }) ∧
    (∀ t, s.raise v.toNat = .lost t →
      s.tick = match s.cfg.altAdvance with
        | .onTick => { t with altLast := v }
        | .onDelivery => t) ∧
    (∀ t, s.raise v.toNat = .faulted t → s.tick = t)

/-- A latch write changes one latch alone; `clearDirty` clears `dirty` alone; `videoRead` reads the byte of the video
window (R164, R50, R66). -/
def Obligations.HostWritesAndReads : Prop :=
  ∀ (s : State) (p b : Byte) (a : Addr), s.latch.wf = true →
    (∃ t, s.handle (.latch p b) = t ∧ t = { s with latch := t.latch } ∧
      t.latch.read p.toNat = b ∧ ∀ q, q ≠ p.toNat → t.latch.read q = s.latch.read q) ∧
    s.clearDirty = { s with dirty := false } ∧
    (s.cfg.videoBase ≤ a.toNat → a.toNat < s.cfg.videoLimit → s.videoRead a = some (s.mem.read a.toNat))

/-- The program load: the bytes stand from `LOAD_ORIGIN` on, past the gate, every other byte and all else unchanged; an
image that does not fit is refused (R65). -/
def Obligations.ProgramLoad : Prop :=
  ∀ (s : State) (bytes : List Byte), s.mem.wf = true →
    (s.cfg.memSize < s.cfg.loadOrigin + bytes.length → loadImage bytes s = .refused .imageTooLarge) ∧
    (s.cfg.loadOrigin + bytes.length ≤ s.cfg.memSize → ∃ t, loadImage bytes s = .next t ∧ t = { s with mem := t.mem } ∧
      (∀ (k : Nat) (v : Byte), bytes[k]? = some v → t.mem.read (s.cfg.loadOrigin + k) = v) ∧
      (∀ j, j < s.cfg.loadOrigin ∨ s.cfg.loadOrigin + bytes.length ≤ j → t.mem.read j = s.mem.read j))

/-- Reset leaves every register, flag, memory byte, latch and shifter field zero, and no event, halt or fault (R42). -/
def Obligations.ResetValues : Prop :=
  State.reset.regs = { a := 0, b := 0, c := 0, d := 0, e := 0, h := 0, l := 0 } ∧
  State.reset.sp = 0 ∧ State.reset.pc = 0 ∧
  State.reset.flags = { s := false, z := false, ac := false, p := false, cy := false } ∧
  State.reset.ime = false ∧ (∀ j, State.reset.mem.read j = 0) ∧ (∀ q, State.reset.latch.read q = 0) ∧
  State.reset.shifter = { hi := 0, lo := 0, off := 0 } ∧ State.reset.altLast = 0 ∧ State.reset.dirty = false ∧
  State.reset.events = [] ∧ State.reset.halted = false ∧ State.reset.fault = none

/-! ### Memory and flags -/

/-- The index function: an address below `MEM_SIZE` is its own index; another faults, or wraps, by `OOB_POLICY`; a
read is the byte at the index (R44, R45). -/
def Obligations.AddressesIndexMemory : Prop :=
  ∀ (s : State) (a : Addr), s.cfg.wf = true →
    (a.toNat < s.cfg.memSize → indexOf s.cfg a = some a.toNat) ∧
    (s.cfg.memSize ≤ a.toNat → s.cfg.oobPolicy = .fault → indexOf s.cfg a = none) ∧
    (s.cfg.memSize ≤ a.toNat → s.cfg.oobPolicy = .wrap → indexOf s.cfg a = some (a.toNat % s.cfg.memSize)) ∧
    (∀ k, indexOf s.cfg a = some k → k < s.cfg.memSize ∧ s.peek a = some (s.mem.read k)) ∧
    (indexOf s.cfg a = none → s.peek a = none)

/-- The gate: a byte write in range is one of the three outcomes of R46 and R47 and changes no other byte. -/
def Obligations.GateOutcomes : Prop :=
  ∀ (s : State) (a : Addr) (v : Byte), s.mem.wf = true →
    (indexOf s.cfg a ≠ none → ∃ t, s.storeByte a v = .done t ∧ s.gateWrote t a v) ∧
    (indexOf s.cfg a = none → s.storeByte a v = .outOfRange s a)

/-- The flags byte's layout, and what unpacking it gives back (R29, R30). -/
def Obligations.FlagsByteLayout : Prop :=
  ∀ (f : Flags) (v : Byte),
    f.byte.toNat = 128 * f.s.toNat + 64 * f.z.toNat + 16 * f.ac.toNat + 4 * f.p.toNat + 2 + f.cy.toNat ∧
    Flags.ofByte f.byte = f ∧
    Flags.ofByte v = { s := v.getLsbD 7, z := v.getLsbD 6, ac := v.getLsbD 4, p := v.getLsbD 2, cy := v.getLsbD 0 } ∧
    (Flags.ofByte v).byte = (v &&& 0xD5#8) ||| 0x02#8

/-- No instruction changes a flag outside its row of R26's table, and ANA, XRA and ORA that did not fault leave CY 0; port
transfers and the host's events, interrupt delivery among them, change no flag. The values written to the flags of a row
are stated elsewhere: `PopLoadsFromStackPointer` (O20) and `DoubleAdd` to `IncrementDecrementSlot` (O26 to O31). -/
def Obligations.FlagsWrittenByTable : Prop :=
  ∀ (i : Instr) (s t : State), exec i s = .next t →
    ((∃ op x, i = .alu op x) ∨ (∃ op v, i = .aluImm op v) → t.flags.ac = s.flags.ac) ∧
    (∀ op x, i = .alu op x → op = .ana ∨ op = .xra ∨ op = .ora → t.fault = none → t.flags.cy = false) ∧
    (∀ op v, i = .aluImm op v → op = .ana ∨ op = .xra ∨ op = .ora → t.flags.cy = false) ∧
    ((∃ x, i = .inr x) ∨ (∃ x, i = .dcr x) → t.flags.cy = s.flags.cy ∧ t.flags.ac = s.flags.ac) ∧
    ((∃ rr, i = .dad rr) ∨ i = .rlc ∨ i = .rrc ∨ i = .ral ∨ i = .rar ∨ i = .stc ∨ i = .cmc →
      t.flags.s = s.flags.s ∧ t.flags.z = s.flags.z ∧ t.flags.p = s.flags.p ∧ t.flags.ac = s.flags.ac) ∧
    ((∃ op x, i = .alu op x) ∨ (∃ op v, i = .aluImm op v) ∨ (∃ x, i = .inr x) ∨ (∃ x, i = .dcr x) ∨
      (∃ rr, i = .dad rr) ∨ i = .rlc ∨ i = .rrc ∨ i = .ral ∨ i = .rar ∨ i = .stc ∨ i = .cmc ∨ i = .popPsw ∨
      t.flags = s.flags) ∧
    (∀ io, (s.portTransfer io).flags = s.flags) ∧ (∀ e, (s.handle e).flags = s.flags)

/-! ### Whole-machine rules -/

/-- A whole iteration changes AC only by running POP PSW (R28). -/
def Obligations.OnlyPopPswWritesAuxCarry : Prop :=
  ∀ s t : State, step s = .next t → t.flags.ac ≠ s.flags.ac → s.fetch = .ready .popPsw

/-- What only some instructions may write: IME by EI and DI, the shifter by OUT, `halted` by HLT; no instruction writes
a latch, the alternation marker, the configuration or the host's timeline (R31, R33, R37, R32, R34, R7). -/
def Obligations.ControlStateWriters : Prop :=
  ∀ (i : Instr) (s t : State), exec i s = .next t →
    (i ≠ .ei → i ≠ .di → t.ime = s.ime) ∧ ((∀ p, i ≠ .out p) → t.shifter = s.shifter) ∧
    (i ≠ .hlt → t.halted = s.halted) ∧ t.latch = s.latch ∧ t.altLast = s.altLast ∧ t.cfg = s.cfg ∧
    t.timeline = s.timeline

/-- Only the storing instructions of R56's table touch memory, `dirty` or the event log. -/
def Obligations.OnlyStoresTouchMemory : Prop :=
  ∀ (i : Instr) (s t : State), exec i s = .next t → ¬ storesToMemory i →
    t.mem = s.mem ∧ t.dirty = s.dirty ∧ t.events = s.events

/-- Every instruction advances PC by exactly its length unless it is a control transfer (R24, R67). -/
def Obligations.PcAdvancesByLength : Prop :=
  ∀ (i : Instr) (s t : State), exec i s = .next t → ¬ transfersControl i → t.pc = s.pc + BitVec.ofNat 16 i.length

/-- Every instruction completes with a next state, and faults only with OutOfRange at an address without an index, or,
where it is no instruction of the map, with UnimplementedOpcode (R151, R155). -/
def Obligations.InstructionsFaultOnlyAsListed : Prop :=
  ∀ (i : Instr) (s : State), s.fault = none → ∃ t, exec i s = .next t ∧
    (t.fault = none ∨
      (∃ a, indexOf s.cfg a = none ∧
        t.fault = some { kind := .outOfRange, addr := a, byte := some i.opcode }) ∨
      (i.wf s.cfg = false ∧
        t.fault = some { kind := .unimplementedOpcode, addr := s.pc, byte := some i.opcode }))

/-- The invariant holds at reset. -/
def Obligations.StateInvariantAtReset : Prop :=
  State.reset.wf = true

/-- Every iteration keeps the invariant: parameters as R7 asks, memory and latches in canonical form and in bounds,
events of protected addresses only, a fault record R151 allows, never both halted and faulted. -/
def Obligations.EveryStepKeepsStateInvariant : Prop :=
  ∀ s t : State, s.wf = true → step s = .next t → t.wf = true

/-- No iteration, its interrupts included, changes a byte below `PROTECT_LIMIT` (R47, R49, R60). -/
def Obligations.ProtectedBytesNeverChange : Prop :=
  ∀ (s t : State) (j : Nat), step s = .next t → j < s.cfg.protectLimit → t.mem.read j = s.mem.read j

/-- `dirty` is sticky within an iteration, and a changed byte of the video window raises it, unless the host clears it
at the iteration's end (R35, R46, R50; when the host clears it is the model's reading, log entry 11). -/
def Obligations.VideoChangesRaiseDirty : Prop :=
  ∀ s t : State, step s = .next t → (∀ turn, s.timeline.head? = some turn → turn.clearDirty = false) →
    (s.dirty = true → t.dirty = true) ∧
    (∀ j, s.cfg.videoBase ≤ j → j < s.cfg.videoLimit → t.mem.read j ≠ s.mem.read j → t.dirty = true)

/-- An iteration only appends to the event log, keeps the configuration, and changes a latch only where its events write
that latch (R36, R7, R32). -/
def Obligations.EventLogGrowsAndHostOwnsLatches : Prop :=
  ∀ s t : State, step s = .next t → s.events <+: t.events ∧ t.cfg = s.cfg ∧
    (∀ q, t.latch.read q ≠ s.latch.read q →
      ∃ turn p b, s.timeline.head? = some turn ∧ HostEvent.latch p b ∈ turn.events ∧ p.toNat = q)
end

