-- ==== Sys2Proof/Laws/PerInstr.lean ====
section
/-! SUPPORT. A fact of every instruction, one lemma per constructor: its encoding is an opcode byte and the operand bytes
that the decoder's head for that byte asks for, and the head gives the instruction back (spec/30_encoding.md R67, R75,
R80). Decoding and fetching follow from it. -/

namespace Sys2Proof.Laws.HeadOfEncoding

/-- The encoding has one of the three shapes of R67, and its opcode's head makes the instruction of its operand. -/
def Statement (i : Instr) : Prop :=
  (∃ op, encode i = [op] ∧ decodeOpcode op = .bare i) ∨
    (∃ op v k, encode i = [op, v] ∧ decodeOpcode op = .byte k ∧ k v = i) ∨
    (∃ op w k, encode i = [op, Word.low w, Word.high w] ∧ decodeOpcode op = .word k ∧ k w = i)

theorem nop : Statement .nop := .inl ⟨0x00#8, rfl, rfl⟩
theorem lxiB (d16 : Word) : Statement (.lxiB d16) := .inr (.inr ⟨0x01#8, _, _, rfl, rfl, rfl⟩)
theorem staxB : Statement .staxB := .inl ⟨0x02#8, rfl, rfl⟩
theorem inxB : Statement .inxB := .inl ⟨0x03#8, rfl, rfl⟩
theorem inrB : Statement .inrB := .inl ⟨0x04#8, rfl, rfl⟩
theorem dcrB : Statement .dcrB := .inl ⟨0x05#8, rfl, rfl⟩
theorem mviB (d8 : Byte) : Statement (.mviB d8) := .inr (.inl ⟨0x06#8, _, _, rfl, rfl, rfl⟩)
theorem rlc : Statement .rlc := .inl ⟨0x07#8, rfl, rfl⟩
theorem alias08 : Statement .alias08 := .inl ⟨0x08#8, rfl, rfl⟩
theorem dadB : Statement .dadB := .inl ⟨0x09#8, rfl, rfl⟩
theorem ldaxB : Statement .ldaxB := .inl ⟨0x0A#8, rfl, rfl⟩
theorem dcxB : Statement .dcxB := .inl ⟨0x0B#8, rfl, rfl⟩
theorem inrC : Statement .inrC := .inl ⟨0x0C#8, rfl, rfl⟩
theorem dcrC : Statement .dcrC := .inl ⟨0x0D#8, rfl, rfl⟩
theorem mviC (d8 : Byte) : Statement (.mviC d8) := .inr (.inl ⟨0x0E#8, _, _, rfl, rfl, rfl⟩)
theorem rrc : Statement .rrc := .inl ⟨0x0F#8, rfl, rfl⟩
theorem alias10 : Statement .alias10 := .inl ⟨0x10#8, rfl, rfl⟩
theorem lxiD (d16 : Word) : Statement (.lxiD d16) := .inr (.inr ⟨0x11#8, _, _, rfl, rfl, rfl⟩)
theorem staxD : Statement .staxD := .inl ⟨0x12#8, rfl, rfl⟩
theorem inxD : Statement .inxD := .inl ⟨0x13#8, rfl, rfl⟩
theorem inrD : Statement .inrD := .inl ⟨0x14#8, rfl, rfl⟩
theorem dcrD : Statement .dcrD := .inl ⟨0x15#8, rfl, rfl⟩
theorem mviD (d8 : Byte) : Statement (.mviD d8) := .inr (.inl ⟨0x16#8, _, _, rfl, rfl, rfl⟩)
theorem ral : Statement .ral := .inl ⟨0x17#8, rfl, rfl⟩
theorem alias18 : Statement .alias18 := .inl ⟨0x18#8, rfl, rfl⟩
theorem dadD : Statement .dadD := .inl ⟨0x19#8, rfl, rfl⟩
theorem ldaxD : Statement .ldaxD := .inl ⟨0x1A#8, rfl, rfl⟩
theorem dcxD : Statement .dcxD := .inl ⟨0x1B#8, rfl, rfl⟩
theorem inrE : Statement .inrE := .inl ⟨0x1C#8, rfl, rfl⟩
theorem dcrE : Statement .dcrE := .inl ⟨0x1D#8, rfl, rfl⟩
theorem mviE (d8 : Byte) : Statement (.mviE d8) := .inr (.inl ⟨0x1E#8, _, _, rfl, rfl, rfl⟩)
theorem rar : Statement .rar := .inl ⟨0x1F#8, rfl, rfl⟩
theorem alias20 : Statement .alias20 := .inl ⟨0x20#8, rfl, rfl⟩
theorem lxiH (d16 : Word) : Statement (.lxiH d16) := .inr (.inr ⟨0x21#8, _, _, rfl, rfl, rfl⟩)
theorem shld (a16 : Addr) : Statement (.shld a16) := .inr (.inr ⟨0x22#8, _, _, rfl, rfl, rfl⟩)
theorem inxH : Statement .inxH := .inl ⟨0x23#8, rfl, rfl⟩
theorem inrH : Statement .inrH := .inl ⟨0x24#8, rfl, rfl⟩
theorem dcrH : Statement .dcrH := .inl ⟨0x25#8, rfl, rfl⟩
theorem mviH (d8 : Byte) : Statement (.mviH d8) := .inr (.inl ⟨0x26#8, _, _, rfl, rfl, rfl⟩)
theorem daa : Statement .daa := .inl ⟨0x27#8, rfl, rfl⟩
theorem alias28 : Statement .alias28 := .inl ⟨0x28#8, rfl, rfl⟩
theorem dadH : Statement .dadH := .inl ⟨0x29#8, rfl, rfl⟩
theorem lhld (a16 : Addr) : Statement (.lhld a16) := .inr (.inr ⟨0x2A#8, _, _, rfl, rfl, rfl⟩)
theorem dcxH : Statement .dcxH := .inl ⟨0x2B#8, rfl, rfl⟩
theorem inrL : Statement .inrL := .inl ⟨0x2C#8, rfl, rfl⟩
theorem dcrL : Statement .dcrL := .inl ⟨0x2D#8, rfl, rfl⟩
theorem mviL (d8 : Byte) : Statement (.mviL d8) := .inr (.inl ⟨0x2E#8, _, _, rfl, rfl, rfl⟩)
theorem cma : Statement .cma := .inl ⟨0x2F#8, rfl, rfl⟩
theorem alias30 : Statement .alias30 := .inl ⟨0x30#8, rfl, rfl⟩
theorem lxiSp (d16 : Word) : Statement (.lxiSp d16) := .inr (.inr ⟨0x31#8, _, _, rfl, rfl, rfl⟩)
theorem sta (a16 : Addr) : Statement (.sta a16) := .inr (.inr ⟨0x32#8, _, _, rfl, rfl, rfl⟩)
theorem inxSp : Statement .inxSp := .inl ⟨0x33#8, rfl, rfl⟩
theorem inrM : Statement .inrM := .inl ⟨0x34#8, rfl, rfl⟩
theorem dcrM : Statement .dcrM := .inl ⟨0x35#8, rfl, rfl⟩
theorem mviM (d8 : Byte) : Statement (.mviM d8) := .inr (.inl ⟨0x36#8, _, _, rfl, rfl, rfl⟩)
theorem stc : Statement .stc := .inl ⟨0x37#8, rfl, rfl⟩
theorem alias38 : Statement .alias38 := .inl ⟨0x38#8, rfl, rfl⟩
theorem dadSp : Statement .dadSp := .inl ⟨0x39#8, rfl, rfl⟩
theorem lda (a16 : Addr) : Statement (.lda a16) := .inr (.inr ⟨0x3A#8, _, _, rfl, rfl, rfl⟩)
theorem dcxSp : Statement .dcxSp := .inl ⟨0x3B#8, rfl, rfl⟩
theorem inrA : Statement .inrA := .inl ⟨0x3C#8, rfl, rfl⟩
theorem dcrA : Statement .dcrA := .inl ⟨0x3D#8, rfl, rfl⟩
theorem mviA (d8 : Byte) : Statement (.mviA d8) := .inr (.inl ⟨0x3E#8, _, _, rfl, rfl, rfl⟩)
theorem cmc : Statement .cmc := .inl ⟨0x3F#8, rfl, rfl⟩
theorem movBB : Statement .movBB := .inl ⟨0x40#8, rfl, rfl⟩
theorem movBC : Statement .movBC := .inl ⟨0x41#8, rfl, rfl⟩
theorem movBD : Statement .movBD := .inl ⟨0x42#8, rfl, rfl⟩
theorem movBE : Statement .movBE := .inl ⟨0x43#8, rfl, rfl⟩
theorem movBH : Statement .movBH := .inl ⟨0x44#8, rfl, rfl⟩
theorem movBL : Statement .movBL := .inl ⟨0x45#8, rfl, rfl⟩
theorem movBM : Statement .movBM := .inl ⟨0x46#8, rfl, rfl⟩
theorem movBA : Statement .movBA := .inl ⟨0x47#8, rfl, rfl⟩
theorem movCB : Statement .movCB := .inl ⟨0x48#8, rfl, rfl⟩
theorem movCC : Statement .movCC := .inl ⟨0x49#8, rfl, rfl⟩
theorem movCD : Statement .movCD := .inl ⟨0x4A#8, rfl, rfl⟩
theorem movCE : Statement .movCE := .inl ⟨0x4B#8, rfl, rfl⟩
theorem movCH : Statement .movCH := .inl ⟨0x4C#8, rfl, rfl⟩
theorem movCL : Statement .movCL := .inl ⟨0x4D#8, rfl, rfl⟩
theorem movCM : Statement .movCM := .inl ⟨0x4E#8, rfl, rfl⟩
theorem movCA : Statement .movCA := .inl ⟨0x4F#8, rfl, rfl⟩
theorem movDB : Statement .movDB := .inl ⟨0x50#8, rfl, rfl⟩
theorem movDC : Statement .movDC := .inl ⟨0x51#8, rfl, rfl⟩
theorem movDD : Statement .movDD := .inl ⟨0x52#8, rfl, rfl⟩
theorem movDE : Statement .movDE := .inl ⟨0x53#8, rfl, rfl⟩
theorem movDH : Statement .movDH := .inl ⟨0x54#8, rfl, rfl⟩
theorem movDL : Statement .movDL := .inl ⟨0x55#8, rfl, rfl⟩
theorem movDM : Statement .movDM := .inl ⟨0x56#8, rfl, rfl⟩
theorem movDA : Statement .movDA := .inl ⟨0x57#8, rfl, rfl⟩
theorem movEB : Statement .movEB := .inl ⟨0x58#8, rfl, rfl⟩
theorem movEC : Statement .movEC := .inl ⟨0x59#8, rfl, rfl⟩
theorem movED : Statement .movED := .inl ⟨0x5A#8, rfl, rfl⟩
theorem movEE : Statement .movEE := .inl ⟨0x5B#8, rfl, rfl⟩
theorem movEH : Statement .movEH := .inl ⟨0x5C#8, rfl, rfl⟩
theorem movEL : Statement .movEL := .inl ⟨0x5D#8, rfl, rfl⟩
theorem movEM : Statement .movEM := .inl ⟨0x5E#8, rfl, rfl⟩
theorem movEA : Statement .movEA := .inl ⟨0x5F#8, rfl, rfl⟩
theorem movHB : Statement .movHB := .inl ⟨0x60#8, rfl, rfl⟩
theorem movHC : Statement .movHC := .inl ⟨0x61#8, rfl, rfl⟩
theorem movHD : Statement .movHD := .inl ⟨0x62#8, rfl, rfl⟩
theorem movHE : Statement .movHE := .inl ⟨0x63#8, rfl, rfl⟩
theorem movHH : Statement .movHH := .inl ⟨0x64#8, rfl, rfl⟩
theorem movHL : Statement .movHL := .inl ⟨0x65#8, rfl, rfl⟩
theorem movHM : Statement .movHM := .inl ⟨0x66#8, rfl, rfl⟩
theorem movHA : Statement .movHA := .inl ⟨0x67#8, rfl, rfl⟩
theorem movLB : Statement .movLB := .inl ⟨0x68#8, rfl, rfl⟩
theorem movLC : Statement .movLC := .inl ⟨0x69#8, rfl, rfl⟩
theorem movLD : Statement .movLD := .inl ⟨0x6A#8, rfl, rfl⟩
theorem movLE : Statement .movLE := .inl ⟨0x6B#8, rfl, rfl⟩
theorem movLH : Statement .movLH := .inl ⟨0x6C#8, rfl, rfl⟩
theorem movLL : Statement .movLL := .inl ⟨0x6D#8, rfl, rfl⟩
theorem movLM : Statement .movLM := .inl ⟨0x6E#8, rfl, rfl⟩
theorem movLA : Statement .movLA := .inl ⟨0x6F#8, rfl, rfl⟩
theorem movMB : Statement .movMB := .inl ⟨0x70#8, rfl, rfl⟩
theorem movMC : Statement .movMC := .inl ⟨0x71#8, rfl, rfl⟩
theorem movMD : Statement .movMD := .inl ⟨0x72#8, rfl, rfl⟩
theorem movME : Statement .movME := .inl ⟨0x73#8, rfl, rfl⟩
theorem movMH : Statement .movMH := .inl ⟨0x74#8, rfl, rfl⟩
theorem movML : Statement .movML := .inl ⟨0x75#8, rfl, rfl⟩
theorem hlt : Statement .hlt := .inl ⟨0x76#8, rfl, rfl⟩
theorem movMA : Statement .movMA := .inl ⟨0x77#8, rfl, rfl⟩
theorem movAB : Statement .movAB := .inl ⟨0x78#8, rfl, rfl⟩
theorem movAC : Statement .movAC := .inl ⟨0x79#8, rfl, rfl⟩
theorem movAD : Statement .movAD := .inl ⟨0x7A#8, rfl, rfl⟩
theorem movAE : Statement .movAE := .inl ⟨0x7B#8, rfl, rfl⟩
theorem movAH : Statement .movAH := .inl ⟨0x7C#8, rfl, rfl⟩
theorem movAL : Statement .movAL := .inl ⟨0x7D#8, rfl, rfl⟩
theorem movAM : Statement .movAM := .inl ⟨0x7E#8, rfl, rfl⟩
theorem movAA : Statement .movAA := .inl ⟨0x7F#8, rfl, rfl⟩
theorem addB : Statement .addB := .inl ⟨0x80#8, rfl, rfl⟩
theorem addC : Statement .addC := .inl ⟨0x81#8, rfl, rfl⟩
theorem addD : Statement .addD := .inl ⟨0x82#8, rfl, rfl⟩
theorem addE : Statement .addE := .inl ⟨0x83#8, rfl, rfl⟩
theorem addH : Statement .addH := .inl ⟨0x84#8, rfl, rfl⟩
theorem addL : Statement .addL := .inl ⟨0x85#8, rfl, rfl⟩
theorem addM : Statement .addM := .inl ⟨0x86#8, rfl, rfl⟩
theorem addA : Statement .addA := .inl ⟨0x87#8, rfl, rfl⟩
theorem adcB : Statement .adcB := .inl ⟨0x88#8, rfl, rfl⟩
theorem adcC : Statement .adcC := .inl ⟨0x89#8, rfl, rfl⟩
theorem adcD : Statement .adcD := .inl ⟨0x8A#8, rfl, rfl⟩
theorem adcE : Statement .adcE := .inl ⟨0x8B#8, rfl, rfl⟩
theorem adcH : Statement .adcH := .inl ⟨0x8C#8, rfl, rfl⟩
theorem adcL : Statement .adcL := .inl ⟨0x8D#8, rfl, rfl⟩
theorem adcM : Statement .adcM := .inl ⟨0x8E#8, rfl, rfl⟩
theorem adcA : Statement .adcA := .inl ⟨0x8F#8, rfl, rfl⟩
theorem subB : Statement .subB := .inl ⟨0x90#8, rfl, rfl⟩
theorem subC : Statement .subC := .inl ⟨0x91#8, rfl, rfl⟩
theorem subD : Statement .subD := .inl ⟨0x92#8, rfl, rfl⟩
theorem subE : Statement .subE := .inl ⟨0x93#8, rfl, rfl⟩
theorem subH : Statement .subH := .inl ⟨0x94#8, rfl, rfl⟩
theorem subL : Statement .subL := .inl ⟨0x95#8, rfl, rfl⟩
theorem subM : Statement .subM := .inl ⟨0x96#8, rfl, rfl⟩
theorem subA : Statement .subA := .inl ⟨0x97#8, rfl, rfl⟩
theorem sbbB : Statement .sbbB := .inl ⟨0x98#8, rfl, rfl⟩
theorem sbbC : Statement .sbbC := .inl ⟨0x99#8, rfl, rfl⟩
theorem sbbD : Statement .sbbD := .inl ⟨0x9A#8, rfl, rfl⟩
theorem sbbE : Statement .sbbE := .inl ⟨0x9B#8, rfl, rfl⟩
theorem sbbH : Statement .sbbH := .inl ⟨0x9C#8, rfl, rfl⟩
theorem sbbL : Statement .sbbL := .inl ⟨0x9D#8, rfl, rfl⟩
theorem sbbM : Statement .sbbM := .inl ⟨0x9E#8, rfl, rfl⟩
theorem sbbA : Statement .sbbA := .inl ⟨0x9F#8, rfl, rfl⟩
theorem anaB : Statement .anaB := .inl ⟨0xA0#8, rfl, rfl⟩
theorem anaC : Statement .anaC := .inl ⟨0xA1#8, rfl, rfl⟩
theorem anaD : Statement .anaD := .inl ⟨0xA2#8, rfl, rfl⟩
theorem anaE : Statement .anaE := .inl ⟨0xA3#8, rfl, rfl⟩
theorem anaH : Statement .anaH := .inl ⟨0xA4#8, rfl, rfl⟩
theorem anaL : Statement .anaL := .inl ⟨0xA5#8, rfl, rfl⟩
theorem anaM : Statement .anaM := .inl ⟨0xA6#8, rfl, rfl⟩
theorem anaA : Statement .anaA := .inl ⟨0xA7#8, rfl, rfl⟩
theorem xraB : Statement .xraB := .inl ⟨0xA8#8, rfl, rfl⟩
theorem xraC : Statement .xraC := .inl ⟨0xA9#8, rfl, rfl⟩
theorem xraD : Statement .xraD := .inl ⟨0xAA#8, rfl, rfl⟩
theorem xraE : Statement .xraE := .inl ⟨0xAB#8, rfl, rfl⟩
theorem xraH : Statement .xraH := .inl ⟨0xAC#8, rfl, rfl⟩
theorem xraL : Statement .xraL := .inl ⟨0xAD#8, rfl, rfl⟩
theorem xraM : Statement .xraM := .inl ⟨0xAE#8, rfl, rfl⟩
theorem xraA : Statement .xraA := .inl ⟨0xAF#8, rfl, rfl⟩
theorem oraB : Statement .oraB := .inl ⟨0xB0#8, rfl, rfl⟩
theorem oraC : Statement .oraC := .inl ⟨0xB1#8, rfl, rfl⟩
theorem oraD : Statement .oraD := .inl ⟨0xB2#8, rfl, rfl⟩
theorem oraE : Statement .oraE := .inl ⟨0xB3#8, rfl, rfl⟩
theorem oraH : Statement .oraH := .inl ⟨0xB4#8, rfl, rfl⟩
theorem oraL : Statement .oraL := .inl ⟨0xB5#8, rfl, rfl⟩
theorem oraM : Statement .oraM := .inl ⟨0xB6#8, rfl, rfl⟩
theorem oraA : Statement .oraA := .inl ⟨0xB7#8, rfl, rfl⟩
theorem cmpB : Statement .cmpB := .inl ⟨0xB8#8, rfl, rfl⟩
theorem cmpC : Statement .cmpC := .inl ⟨0xB9#8, rfl, rfl⟩
theorem cmpD : Statement .cmpD := .inl ⟨0xBA#8, rfl, rfl⟩
theorem cmpE : Statement .cmpE := .inl ⟨0xBB#8, rfl, rfl⟩
theorem cmpH : Statement .cmpH := .inl ⟨0xBC#8, rfl, rfl⟩
theorem cmpL : Statement .cmpL := .inl ⟨0xBD#8, rfl, rfl⟩
theorem cmpM : Statement .cmpM := .inl ⟨0xBE#8, rfl, rfl⟩
theorem cmpA : Statement .cmpA := .inl ⟨0xBF#8, rfl, rfl⟩
theorem rnz : Statement .rnz := .inl ⟨0xC0#8, rfl, rfl⟩
theorem popB : Statement .popB := .inl ⟨0xC1#8, rfl, rfl⟩
theorem jnz (a16 : Addr) : Statement (.jnz a16) := .inr (.inr ⟨0xC2#8, _, _, rfl, rfl, rfl⟩)
theorem jmp (a16 : Addr) : Statement (.jmp a16) := .inr (.inr ⟨0xC3#8, _, _, rfl, rfl, rfl⟩)
theorem cnz (a16 : Addr) : Statement (.cnz a16) := .inr (.inr ⟨0xC4#8, _, _, rfl, rfl, rfl⟩)
theorem pushB : Statement .pushB := .inl ⟨0xC5#8, rfl, rfl⟩
theorem adi (d8 : Byte) : Statement (.adi d8) := .inr (.inl ⟨0xC6#8, _, _, rfl, rfl, rfl⟩)
theorem rst0 : Statement .rst0 := .inl ⟨0xC7#8, rfl, rfl⟩
theorem rz : Statement .rz := .inl ⟨0xC8#8, rfl, rfl⟩
theorem ret : Statement .ret := .inl ⟨0xC9#8, rfl, rfl⟩
theorem jz (a16 : Addr) : Statement (.jz a16) := .inr (.inr ⟨0xCA#8, _, _, rfl, rfl, rfl⟩)
theorem aliasCB : Statement .aliasCB := .inl ⟨0xCB#8, rfl, rfl⟩
theorem cz (a16 : Addr) : Statement (.cz a16) := .inr (.inr ⟨0xCC#8, _, _, rfl, rfl, rfl⟩)
theorem call (a16 : Addr) : Statement (.call a16) := .inr (.inr ⟨0xCD#8, _, _, rfl, rfl, rfl⟩)
theorem aci (d8 : Byte) : Statement (.aci d8) := .inr (.inl ⟨0xCE#8, _, _, rfl, rfl, rfl⟩)
theorem rst1 : Statement .rst1 := .inl ⟨0xCF#8, rfl, rfl⟩
theorem rnc : Statement .rnc := .inl ⟨0xD0#8, rfl, rfl⟩
theorem popD : Statement .popD := .inl ⟨0xD1#8, rfl, rfl⟩
theorem jnc (a16 : Addr) : Statement (.jnc a16) := .inr (.inr ⟨0xD2#8, _, _, rfl, rfl, rfl⟩)
theorem out (p8 : Byte) : Statement (.out p8) := .inr (.inl ⟨0xD3#8, _, _, rfl, rfl, rfl⟩)
theorem cnc (a16 : Addr) : Statement (.cnc a16) := .inr (.inr ⟨0xD4#8, _, _, rfl, rfl, rfl⟩)
theorem pushD : Statement .pushD := .inl ⟨0xD5#8, rfl, rfl⟩
theorem sui (d8 : Byte) : Statement (.sui d8) := .inr (.inl ⟨0xD6#8, _, _, rfl, rfl, rfl⟩)
theorem rst2 : Statement .rst2 := .inl ⟨0xD7#8, rfl, rfl⟩
theorem rc : Statement .rc := .inl ⟨0xD8#8, rfl, rfl⟩
theorem aliasD9 : Statement .aliasD9 := .inl ⟨0xD9#8, rfl, rfl⟩
theorem jc (a16 : Addr) : Statement (.jc a16) := .inr (.inr ⟨0xDA#8, _, _, rfl, rfl, rfl⟩)
theorem inp (p8 : Byte) : Statement (.inp p8) := .inr (.inl ⟨0xDB#8, _, _, rfl, rfl, rfl⟩)
theorem cc (a16 : Addr) : Statement (.cc a16) := .inr (.inr ⟨0xDC#8, _, _, rfl, rfl, rfl⟩)
theorem aliasDD : Statement .aliasDD := .inl ⟨0xDD#8, rfl, rfl⟩
theorem sbi (d8 : Byte) : Statement (.sbi d8) := .inr (.inl ⟨0xDE#8, _, _, rfl, rfl, rfl⟩)
theorem rst3 : Statement .rst3 := .inl ⟨0xDF#8, rfl, rfl⟩
theorem rpo : Statement .rpo := .inl ⟨0xE0#8, rfl, rfl⟩
theorem popH : Statement .popH := .inl ⟨0xE1#8, rfl, rfl⟩
theorem jpo (a16 : Addr) : Statement (.jpo a16) := .inr (.inr ⟨0xE2#8, _, _, rfl, rfl, rfl⟩)
theorem xthl : Statement .xthl := .inl ⟨0xE3#8, rfl, rfl⟩
theorem cpo (a16 : Addr) : Statement (.cpo a16) := .inr (.inr ⟨0xE4#8, _, _, rfl, rfl, rfl⟩)
theorem pushH : Statement .pushH := .inl ⟨0xE5#8, rfl, rfl⟩
theorem ani (d8 : Byte) : Statement (.ani d8) := .inr (.inl ⟨0xE6#8, _, _, rfl, rfl, rfl⟩)
theorem rst4 : Statement .rst4 := .inl ⟨0xE7#8, rfl, rfl⟩
theorem rpe : Statement .rpe := .inl ⟨0xE8#8, rfl, rfl⟩
theorem pchl : Statement .pchl := .inl ⟨0xE9#8, rfl, rfl⟩
theorem jpe (a16 : Addr) : Statement (.jpe a16) := .inr (.inr ⟨0xEA#8, _, _, rfl, rfl, rfl⟩)
theorem xchg : Statement .xchg := .inl ⟨0xEB#8, rfl, rfl⟩
theorem cpe (a16 : Addr) : Statement (.cpe a16) := .inr (.inr ⟨0xEC#8, _, _, rfl, rfl, rfl⟩)
theorem aliasED : Statement .aliasED := .inl ⟨0xED#8, rfl, rfl⟩
theorem xri (d8 : Byte) : Statement (.xri d8) := .inr (.inl ⟨0xEE#8, _, _, rfl, rfl, rfl⟩)
theorem rst5 : Statement .rst5 := .inl ⟨0xEF#8, rfl, rfl⟩
theorem rp : Statement .rp := .inl ⟨0xF0#8, rfl, rfl⟩
theorem popPsw : Statement .popPsw := .inl ⟨0xF1#8, rfl, rfl⟩
theorem jp (a16 : Addr) : Statement (.jp a16) := .inr (.inr ⟨0xF2#8, _, _, rfl, rfl, rfl⟩)
theorem di : Statement .di := .inl ⟨0xF3#8, rfl, rfl⟩
theorem cp (a16 : Addr) : Statement (.cp a16) := .inr (.inr ⟨0xF4#8, _, _, rfl, rfl, rfl⟩)
theorem pushPsw : Statement .pushPsw := .inl ⟨0xF5#8, rfl, rfl⟩
theorem ori (d8 : Byte) : Statement (.ori d8) := .inr (.inl ⟨0xF6#8, _, _, rfl, rfl, rfl⟩)
theorem rst6 : Statement .rst6 := .inl ⟨0xF7#8, rfl, rfl⟩
theorem rm : Statement .rm := .inl ⟨0xF8#8, rfl, rfl⟩
theorem sphl : Statement .sphl := .inl ⟨0xF9#8, rfl, rfl⟩
theorem jm (a16 : Addr) : Statement (.jm a16) := .inr (.inr ⟨0xFA#8, _, _, rfl, rfl, rfl⟩)
theorem ei : Statement .ei := .inl ⟨0xFB#8, rfl, rfl⟩
theorem cm (a16 : Addr) : Statement (.cm a16) := .inr (.inr ⟨0xFC#8, _, _, rfl, rfl, rfl⟩)
theorem aliasFD : Statement .aliasFD := .inl ⟨0xFD#8, rfl, rfl⟩
theorem cpi (d8 : Byte) : Statement (.cpi d8) := .inr (.inl ⟨0xFE#8, _, _, rfl, rfl, rfl⟩)
theorem rst7 : Statement .rst7 := .inl ⟨0xFF#8, rfl, rfl⟩

end Sys2Proof.Laws.HeadOfEncoding
end

