-- ==== Sys2Proof/Laws/Families.lean ====
section
/-! SUPPORT. The instructions by family: case analysis over the formats of spec/30_encoding.md R68 in place of the 256
constructors, and `exec` of each family as one equation. -/

namespace Sys2Proof.Machine

/-- Case analysis by family. -/
theorem instr_by_family {P : Instr → Prop}
    (nop : P .nop)
    (mov : ∀ d r, ¬(d = .mem ∧ r = .mem) → P (.mov d r))
    (mvi : ∀ d v, P (.mvi d v))
    (lxi : ∀ rr v, P (.lxi rr v))
    (ldax : ∀ r, P (.ldax r))
    (stax : ∀ r, P (.stax r))
    (lda : ∀ a, P (.lda a))
    (sta : ∀ a, P (.sta a))
    (lhld : ∀ a, P (.lhld a))
    (shld : ∀ a, P (.shld a))
    (push : ∀ rr, P (.push rr))
    (pop : ∀ rr, P (.pop rr))
    (xchg : P .xchg)
    (xthl : P .xthl)
    (sphl : P .sphl)
    (inx : ∀ rr, P (.inx rr))
    (dcx : ∀ rr, P (.dcx rr))
    (dad : ∀ rr, P (.dad rr))
    (alu : ∀ op x, P (.alu op x))
    (aluImm : ∀ op v, P (.aluImm op v))
    (rlc : P .rlc)
    (rrc : P .rrc)
    (ral : P .ral)
    (rar : P .rar)
    (cma : P .cma)
    (cmc : P .cmc)
    (stc : P .stc)
    (inr : ∀ x, P (.inr x))
    (dcr : ∀ x, P (.dcr x))
    (rcc : ∀ cc, P (.rcc cc))
    (ret : P .ret)
    (jcc : ∀ cc a, P (.jcc cc a))
    (jmp : ∀ a, P (.jmp a))
    (ccc : ∀ cc a, P (.ccc cc a))
    (call : ∀ a, P (.call a))
    (rst : ∀ n, n < 8 → P (.rst n))
    (pchl : P .pchl)
    (ei : P .ei)
    (di : P .di)
    (inp : ∀ p, P (.inp p))
    (out : ∀ p, P (.out p))
    (hlt : P .hlt)
    (unimplemented : ∀ i, (∀ c, i.wf c = false) → encode i = [i.opcode] → (∀ s, exec i s = performUnimplemented i s) → P i)
    (i : Instr) : P i :=
  match i with
  | .nop => nop
  | .lxiB d16 => lxi .bc d16
  | .staxB => stax .bc
  | .inxB => inx .bc
  | .inrB => inr (.reg .b)
  | .dcrB => dcr (.reg .b)
  | .mviB d8 => mvi (.reg .b) d8
  | .rlc => rlc
  | .alias08 => unimplemented .alias08 (fun _ => rfl) rfl (fun _ => rfl)
  | .dadB => dad .bc
  | .ldaxB => ldax .bc
  | .dcxB => dcx .bc
  | .inrC => inr (.reg .c)
  | .dcrC => dcr (.reg .c)
  | .mviC d8 => mvi (.reg .c) d8
  | .rrc => rrc
  | .alias10 => unimplemented .alias10 (fun _ => rfl) rfl (fun _ => rfl)
  | .lxiD d16 => lxi .de d16
  | .staxD => stax .de
  | .inxD => inx .de
  | .inrD => inr (.reg .d)
  | .dcrD => dcr (.reg .d)
  | .mviD d8 => mvi (.reg .d) d8
  | .ral => ral
  | .alias18 => unimplemented .alias18 (fun _ => rfl) rfl (fun _ => rfl)
  | .dadD => dad .de
  | .ldaxD => ldax .de
  | .dcxD => dcx .de
  | .inrE => inr (.reg .e)
  | .dcrE => dcr (.reg .e)
  | .mviE d8 => mvi (.reg .e) d8
  | .rar => rar
  | .alias20 => unimplemented .alias20 (fun _ => rfl) rfl (fun _ => rfl)
  | .lxiH d16 => lxi .hl d16
  | .shld a16 => shld a16
  | .inxH => inx .hl
  | .inrH => inr (.reg .h)
  | .dcrH => dcr (.reg .h)
  | .mviH d8 => mvi (.reg .h) d8
  | .daa => unimplemented .daa (fun _ => rfl) rfl (fun _ => rfl)
  | .alias28 => unimplemented .alias28 (fun _ => rfl) rfl (fun _ => rfl)
  | .dadH => dad .hl
  | .lhld a16 => lhld a16
  | .dcxH => dcx .hl
  | .inrL => inr (.reg .l)
  | .dcrL => dcr (.reg .l)
  | .mviL d8 => mvi (.reg .l) d8
  | .cma => cma
  | .alias30 => unimplemented .alias30 (fun _ => rfl) rfl (fun _ => rfl)
  | .lxiSp d16 => lxi .sp d16
  | .sta a16 => sta a16
  | .inxSp => inx .sp
  | .inrM => inr .mem
  | .dcrM => dcr .mem
  | .mviM d8 => mvi .mem d8
  | .stc => stc
  | .alias38 => unimplemented .alias38 (fun _ => rfl) rfl (fun _ => rfl)
  | .dadSp => dad .sp
  | .lda a16 => lda a16
  | .dcxSp => dcx .sp
  | .inrA => inr (.reg .a)
  | .dcrA => dcr (.reg .a)
  | .mviA d8 => mvi (.reg .a) d8
  | .cmc => cmc
  | .movBB => mov (.reg .b) (.reg .b) (by decide)
  | .movBC => mov (.reg .b) (.reg .c) (by decide)
  | .movBD => mov (.reg .b) (.reg .d) (by decide)
  | .movBE => mov (.reg .b) (.reg .e) (by decide)
  | .movBH => mov (.reg .b) (.reg .h) (by decide)
  | .movBL => mov (.reg .b) (.reg .l) (by decide)
  | .movBM => mov (.reg .b) .mem (by decide)
  | .movBA => mov (.reg .b) (.reg .a) (by decide)
  | .movCB => mov (.reg .c) (.reg .b) (by decide)
  | .movCC => mov (.reg .c) (.reg .c) (by decide)
  | .movCD => mov (.reg .c) (.reg .d) (by decide)
  | .movCE => mov (.reg .c) (.reg .e) (by decide)
  | .movCH => mov (.reg .c) (.reg .h) (by decide)
  | .movCL => mov (.reg .c) (.reg .l) (by decide)
  | .movCM => mov (.reg .c) .mem (by decide)
  | .movCA => mov (.reg .c) (.reg .a) (by decide)
  | .movDB => mov (.reg .d) (.reg .b) (by decide)
  | .movDC => mov (.reg .d) (.reg .c) (by decide)
  | .movDD => mov (.reg .d) (.reg .d) (by decide)
  | .movDE => mov (.reg .d) (.reg .e) (by decide)
  | .movDH => mov (.reg .d) (.reg .h) (by decide)
  | .movDL => mov (.reg .d) (.reg .l) (by decide)
  | .movDM => mov (.reg .d) .mem (by decide)
  | .movDA => mov (.reg .d) (.reg .a) (by decide)
  | .movEB => mov (.reg .e) (.reg .b) (by decide)
  | .movEC => mov (.reg .e) (.reg .c) (by decide)
  | .movED => mov (.reg .e) (.reg .d) (by decide)
  | .movEE => mov (.reg .e) (.reg .e) (by decide)
  | .movEH => mov (.reg .e) (.reg .h) (by decide)
  | .movEL => mov (.reg .e) (.reg .l) (by decide)
  | .movEM => mov (.reg .e) .mem (by decide)
  | .movEA => mov (.reg .e) (.reg .a) (by decide)
  | .movHB => mov (.reg .h) (.reg .b) (by decide)
  | .movHC => mov (.reg .h) (.reg .c) (by decide)
  | .movHD => mov (.reg .h) (.reg .d) (by decide)
  | .movHE => mov (.reg .h) (.reg .e) (by decide)
  | .movHH => mov (.reg .h) (.reg .h) (by decide)
  | .movHL => mov (.reg .h) (.reg .l) (by decide)
  | .movHM => mov (.reg .h) .mem (by decide)
  | .movHA => mov (.reg .h) (.reg .a) (by decide)
  | .movLB => mov (.reg .l) (.reg .b) (by decide)
  | .movLC => mov (.reg .l) (.reg .c) (by decide)
  | .movLD => mov (.reg .l) (.reg .d) (by decide)
  | .movLE => mov (.reg .l) (.reg .e) (by decide)
  | .movLH => mov (.reg .l) (.reg .h) (by decide)
  | .movLL => mov (.reg .l) (.reg .l) (by decide)
  | .movLM => mov (.reg .l) .mem (by decide)
  | .movLA => mov (.reg .l) (.reg .a) (by decide)
  | .movMB => mov .mem (.reg .b) (by decide)
  | .movMC => mov .mem (.reg .c) (by decide)
  | .movMD => mov .mem (.reg .d) (by decide)
  | .movME => mov .mem (.reg .e) (by decide)
  | .movMH => mov .mem (.reg .h) (by decide)
  | .movML => mov .mem (.reg .l) (by decide)
  | .hlt => hlt
  | .movMA => mov .mem (.reg .a) (by decide)
  | .movAB => mov (.reg .a) (.reg .b) (by decide)
  | .movAC => mov (.reg .a) (.reg .c) (by decide)
  | .movAD => mov (.reg .a) (.reg .d) (by decide)
  | .movAE => mov (.reg .a) (.reg .e) (by decide)
  | .movAH => mov (.reg .a) (.reg .h) (by decide)
  | .movAL => mov (.reg .a) (.reg .l) (by decide)
  | .movAM => mov (.reg .a) .mem (by decide)
  | .movAA => mov (.reg .a) (.reg .a) (by decide)
  | .addB => alu .add (.reg .b)
  | .addC => alu .add (.reg .c)
  | .addD => alu .add (.reg .d)
  | .addE => alu .add (.reg .e)
  | .addH => alu .add (.reg .h)
  | .addL => alu .add (.reg .l)
  | .addM => alu .add .mem
  | .addA => alu .add (.reg .a)
  | .adcB => alu .adc (.reg .b)
  | .adcC => alu .adc (.reg .c)
  | .adcD => alu .adc (.reg .d)
  | .adcE => alu .adc (.reg .e)
  | .adcH => alu .adc (.reg .h)
  | .adcL => alu .adc (.reg .l)
  | .adcM => alu .adc .mem
  | .adcA => alu .adc (.reg .a)
  | .subB => alu .sub (.reg .b)
  | .subC => alu .sub (.reg .c)
  | .subD => alu .sub (.reg .d)
  | .subE => alu .sub (.reg .e)
  | .subH => alu .sub (.reg .h)
  | .subL => alu .sub (.reg .l)
  | .subM => alu .sub .mem
  | .subA => alu .sub (.reg .a)
  | .sbbB => alu .sbb (.reg .b)
  | .sbbC => alu .sbb (.reg .c)
  | .sbbD => alu .sbb (.reg .d)
  | .sbbE => alu .sbb (.reg .e)
  | .sbbH => alu .sbb (.reg .h)
  | .sbbL => alu .sbb (.reg .l)
  | .sbbM => alu .sbb .mem
  | .sbbA => alu .sbb (.reg .a)
  | .anaB => alu .ana (.reg .b)
  | .anaC => alu .ana (.reg .c)
  | .anaD => alu .ana (.reg .d)
  | .anaE => alu .ana (.reg .e)
  | .anaH => alu .ana (.reg .h)
  | .anaL => alu .ana (.reg .l)
  | .anaM => alu .ana .mem
  | .anaA => alu .ana (.reg .a)
  | .xraB => alu .xra (.reg .b)
  | .xraC => alu .xra (.reg .c)
  | .xraD => alu .xra (.reg .d)
  | .xraE => alu .xra (.reg .e)
  | .xraH => alu .xra (.reg .h)
  | .xraL => alu .xra (.reg .l)
  | .xraM => alu .xra .mem
  | .xraA => alu .xra (.reg .a)
  | .oraB => alu .ora (.reg .b)
  | .oraC => alu .ora (.reg .c)
  | .oraD => alu .ora (.reg .d)
  | .oraE => alu .ora (.reg .e)
  | .oraH => alu .ora (.reg .h)
  | .oraL => alu .ora (.reg .l)
  | .oraM => alu .ora .mem
  | .oraA => alu .ora (.reg .a)
  | .cmpB => alu .cmp (.reg .b)
  | .cmpC => alu .cmp (.reg .c)
  | .cmpD => alu .cmp (.reg .d)
  | .cmpE => alu .cmp (.reg .e)
  | .cmpH => alu .cmp (.reg .h)
  | .cmpL => alu .cmp (.reg .l)
  | .cmpM => alu .cmp .mem
  | .cmpA => alu .cmp (.reg .a)
  | .rnz => rcc .nz
  | .popB => pop .bc
  | .jnz a16 => jcc .nz a16
  | .jmp a16 => jmp a16
  | .cnz a16 => ccc .nz a16
  | .pushB => push .bc
  | .adi d8 => aluImm .add d8
  | .rst0 => rst 0 (by decide)
  | .rz => rcc .z
  | .ret => ret
  | .jz a16 => jcc .z a16
  | .aliasCB => unimplemented .aliasCB (fun _ => rfl) rfl (fun _ => rfl)
  | .cz a16 => ccc .z a16
  | .call a16 => call a16
  | .aci d8 => aluImm .adc d8
  | .rst1 => rst 1 (by decide)
  | .rnc => rcc .nc
  | .popD => pop .de
  | .jnc a16 => jcc .nc a16
  | .out p8 => out p8
  | .cnc a16 => ccc .nc a16
  | .pushD => push .de
  | .sui d8 => aluImm .sub d8
  | .rst2 => rst 2 (by decide)
  | .rc => rcc .c
  | .aliasD9 => unimplemented .aliasD9 (fun _ => rfl) rfl (fun _ => rfl)
  | .jc a16 => jcc .c a16
  | .inp p8 => inp p8
  | .cc a16 => ccc .c a16
  | .aliasDD => unimplemented .aliasDD (fun _ => rfl) rfl (fun _ => rfl)
  | .sbi d8 => aluImm .sbb d8
  | .rst3 => rst 3 (by decide)
  | .rpo => rcc .po
  | .popH => pop .hl
  | .jpo a16 => jcc .po a16
  | .xthl => xthl
  | .cpo a16 => ccc .po a16
  | .pushH => push .hl
  | .ani d8 => aluImm .ana d8
  | .rst4 => rst 4 (by decide)
  | .rpe => rcc .pe
  | .pchl => pchl
  | .jpe a16 => jcc .pe a16
  | .xchg => xchg
  | .cpe a16 => ccc .pe a16
  | .aliasED => unimplemented .aliasED (fun _ => rfl) rfl (fun _ => rfl)
  | .xri d8 => aluImm .xra d8
  | .rst5 => rst 5 (by decide)
  | .rp => rcc .p
  | .popPsw => pop .psw
  | .jp a16 => jcc .p a16
  | .di => di
  | .cp a16 => ccc .p a16
  | .pushPsw => push .psw
  | .ori d8 => aluImm .ora d8
  | .rst6 => rst 6 (by decide)
  | .rm => rcc .m
  | .sphl => sphl
  | .jm a16 => jcc .m a16
  | .ei => ei
  | .cm a16 => ccc .m a16
  | .aliasFD => unimplemented .aliasFD (fun _ => rfl) rfl (fun _ => rfl)
  | .cpi d8 => aluImm .cmp d8
  | .rst7 => rst 7 (by decide)

/-- The per-instruction lemmas of `HeadOfEncoding`, together. -/
theorem head_of_encoding (i : Instr) : Laws.HeadOfEncoding.Statement i :=
  match i with
  | .nop => Laws.HeadOfEncoding.nop
  | .lxiB d16 => Laws.HeadOfEncoding.lxiB d16
  | .staxB => Laws.HeadOfEncoding.staxB
  | .inxB => Laws.HeadOfEncoding.inxB
  | .inrB => Laws.HeadOfEncoding.inrB
  | .dcrB => Laws.HeadOfEncoding.dcrB
  | .mviB d8 => Laws.HeadOfEncoding.mviB d8
  | .rlc => Laws.HeadOfEncoding.rlc
  | .alias08 => Laws.HeadOfEncoding.alias08
  | .dadB => Laws.HeadOfEncoding.dadB
  | .ldaxB => Laws.HeadOfEncoding.ldaxB
  | .dcxB => Laws.HeadOfEncoding.dcxB
  | .inrC => Laws.HeadOfEncoding.inrC
  | .dcrC => Laws.HeadOfEncoding.dcrC
  | .mviC d8 => Laws.HeadOfEncoding.mviC d8
  | .rrc => Laws.HeadOfEncoding.rrc
  | .alias10 => Laws.HeadOfEncoding.alias10
  | .lxiD d16 => Laws.HeadOfEncoding.lxiD d16
  | .staxD => Laws.HeadOfEncoding.staxD
  | .inxD => Laws.HeadOfEncoding.inxD
  | .inrD => Laws.HeadOfEncoding.inrD
  | .dcrD => Laws.HeadOfEncoding.dcrD
  | .mviD d8 => Laws.HeadOfEncoding.mviD d8
  | .ral => Laws.HeadOfEncoding.ral
  | .alias18 => Laws.HeadOfEncoding.alias18
  | .dadD => Laws.HeadOfEncoding.dadD
  | .ldaxD => Laws.HeadOfEncoding.ldaxD
  | .dcxD => Laws.HeadOfEncoding.dcxD
  | .inrE => Laws.HeadOfEncoding.inrE
  | .dcrE => Laws.HeadOfEncoding.dcrE
  | .mviE d8 => Laws.HeadOfEncoding.mviE d8
  | .rar => Laws.HeadOfEncoding.rar
  | .alias20 => Laws.HeadOfEncoding.alias20
  | .lxiH d16 => Laws.HeadOfEncoding.lxiH d16
  | .shld a16 => Laws.HeadOfEncoding.shld a16
  | .inxH => Laws.HeadOfEncoding.inxH
  | .inrH => Laws.HeadOfEncoding.inrH
  | .dcrH => Laws.HeadOfEncoding.dcrH
  | .mviH d8 => Laws.HeadOfEncoding.mviH d8
  | .daa => Laws.HeadOfEncoding.daa
  | .alias28 => Laws.HeadOfEncoding.alias28
  | .dadH => Laws.HeadOfEncoding.dadH
  | .lhld a16 => Laws.HeadOfEncoding.lhld a16
  | .dcxH => Laws.HeadOfEncoding.dcxH
  | .inrL => Laws.HeadOfEncoding.inrL
  | .dcrL => Laws.HeadOfEncoding.dcrL
  | .mviL d8 => Laws.HeadOfEncoding.mviL d8
  | .cma => Laws.HeadOfEncoding.cma
  | .alias30 => Laws.HeadOfEncoding.alias30
  | .lxiSp d16 => Laws.HeadOfEncoding.lxiSp d16
  | .sta a16 => Laws.HeadOfEncoding.sta a16
  | .inxSp => Laws.HeadOfEncoding.inxSp
  | .inrM => Laws.HeadOfEncoding.inrM
  | .dcrM => Laws.HeadOfEncoding.dcrM
  | .mviM d8 => Laws.HeadOfEncoding.mviM d8
  | .stc => Laws.HeadOfEncoding.stc
  | .alias38 => Laws.HeadOfEncoding.alias38
  | .dadSp => Laws.HeadOfEncoding.dadSp
  | .lda a16 => Laws.HeadOfEncoding.lda a16
  | .dcxSp => Laws.HeadOfEncoding.dcxSp
  | .inrA => Laws.HeadOfEncoding.inrA
  | .dcrA => Laws.HeadOfEncoding.dcrA
  | .mviA d8 => Laws.HeadOfEncoding.mviA d8
  | .cmc => Laws.HeadOfEncoding.cmc
  | .movBB => Laws.HeadOfEncoding.movBB
  | .movBC => Laws.HeadOfEncoding.movBC
  | .movBD => Laws.HeadOfEncoding.movBD
  | .movBE => Laws.HeadOfEncoding.movBE
  | .movBH => Laws.HeadOfEncoding.movBH
  | .movBL => Laws.HeadOfEncoding.movBL
  | .movBM => Laws.HeadOfEncoding.movBM
  | .movBA => Laws.HeadOfEncoding.movBA
  | .movCB => Laws.HeadOfEncoding.movCB
  | .movCC => Laws.HeadOfEncoding.movCC
  | .movCD => Laws.HeadOfEncoding.movCD
  | .movCE => Laws.HeadOfEncoding.movCE
  | .movCH => Laws.HeadOfEncoding.movCH
  | .movCL => Laws.HeadOfEncoding.movCL
  | .movCM => Laws.HeadOfEncoding.movCM
  | .movCA => Laws.HeadOfEncoding.movCA
  | .movDB => Laws.HeadOfEncoding.movDB
  | .movDC => Laws.HeadOfEncoding.movDC
  | .movDD => Laws.HeadOfEncoding.movDD
  | .movDE => Laws.HeadOfEncoding.movDE
  | .movDH => Laws.HeadOfEncoding.movDH
  | .movDL => Laws.HeadOfEncoding.movDL
  | .movDM => Laws.HeadOfEncoding.movDM
  | .movDA => Laws.HeadOfEncoding.movDA
  | .movEB => Laws.HeadOfEncoding.movEB
  | .movEC => Laws.HeadOfEncoding.movEC
  | .movED => Laws.HeadOfEncoding.movED
  | .movEE => Laws.HeadOfEncoding.movEE
  | .movEH => Laws.HeadOfEncoding.movEH
  | .movEL => Laws.HeadOfEncoding.movEL
  | .movEM => Laws.HeadOfEncoding.movEM
  | .movEA => Laws.HeadOfEncoding.movEA
  | .movHB => Laws.HeadOfEncoding.movHB
  | .movHC => Laws.HeadOfEncoding.movHC
  | .movHD => Laws.HeadOfEncoding.movHD
  | .movHE => Laws.HeadOfEncoding.movHE
  | .movHH => Laws.HeadOfEncoding.movHH
  | .movHL => Laws.HeadOfEncoding.movHL
  | .movHM => Laws.HeadOfEncoding.movHM
  | .movHA => Laws.HeadOfEncoding.movHA
  | .movLB => Laws.HeadOfEncoding.movLB
  | .movLC => Laws.HeadOfEncoding.movLC
  | .movLD => Laws.HeadOfEncoding.movLD
  | .movLE => Laws.HeadOfEncoding.movLE
  | .movLH => Laws.HeadOfEncoding.movLH
  | .movLL => Laws.HeadOfEncoding.movLL
  | .movLM => Laws.HeadOfEncoding.movLM
  | .movLA => Laws.HeadOfEncoding.movLA
  | .movMB => Laws.HeadOfEncoding.movMB
  | .movMC => Laws.HeadOfEncoding.movMC
  | .movMD => Laws.HeadOfEncoding.movMD
  | .movME => Laws.HeadOfEncoding.movME
  | .movMH => Laws.HeadOfEncoding.movMH
  | .movML => Laws.HeadOfEncoding.movML
  | .hlt => Laws.HeadOfEncoding.hlt
  | .movMA => Laws.HeadOfEncoding.movMA
  | .movAB => Laws.HeadOfEncoding.movAB
  | .movAC => Laws.HeadOfEncoding.movAC
  | .movAD => Laws.HeadOfEncoding.movAD
  | .movAE => Laws.HeadOfEncoding.movAE
  | .movAH => Laws.HeadOfEncoding.movAH
  | .movAL => Laws.HeadOfEncoding.movAL
  | .movAM => Laws.HeadOfEncoding.movAM
  | .movAA => Laws.HeadOfEncoding.movAA
  | .addB => Laws.HeadOfEncoding.addB
  | .addC => Laws.HeadOfEncoding.addC
  | .addD => Laws.HeadOfEncoding.addD
  | .addE => Laws.HeadOfEncoding.addE
  | .addH => Laws.HeadOfEncoding.addH
  | .addL => Laws.HeadOfEncoding.addL
  | .addM => Laws.HeadOfEncoding.addM
  | .addA => Laws.HeadOfEncoding.addA
  | .adcB => Laws.HeadOfEncoding.adcB
  | .adcC => Laws.HeadOfEncoding.adcC
  | .adcD => Laws.HeadOfEncoding.adcD
  | .adcE => Laws.HeadOfEncoding.adcE
  | .adcH => Laws.HeadOfEncoding.adcH
  | .adcL => Laws.HeadOfEncoding.adcL
  | .adcM => Laws.HeadOfEncoding.adcM
  | .adcA => Laws.HeadOfEncoding.adcA
  | .subB => Laws.HeadOfEncoding.subB
  | .subC => Laws.HeadOfEncoding.subC
  | .subD => Laws.HeadOfEncoding.subD
  | .subE => Laws.HeadOfEncoding.subE
  | .subH => Laws.HeadOfEncoding.subH
  | .subL => Laws.HeadOfEncoding.subL
  | .subM => Laws.HeadOfEncoding.subM
  | .subA => Laws.HeadOfEncoding.subA
  | .sbbB => Laws.HeadOfEncoding.sbbB
  | .sbbC => Laws.HeadOfEncoding.sbbC
  | .sbbD => Laws.HeadOfEncoding.sbbD
  | .sbbE => Laws.HeadOfEncoding.sbbE
  | .sbbH => Laws.HeadOfEncoding.sbbH
  | .sbbL => Laws.HeadOfEncoding.sbbL
  | .sbbM => Laws.HeadOfEncoding.sbbM
  | .sbbA => Laws.HeadOfEncoding.sbbA
  | .anaB => Laws.HeadOfEncoding.anaB
  | .anaC => Laws.HeadOfEncoding.anaC
  | .anaD => Laws.HeadOfEncoding.anaD
  | .anaE => Laws.HeadOfEncoding.anaE
  | .anaH => Laws.HeadOfEncoding.anaH
  | .anaL => Laws.HeadOfEncoding.anaL
  | .anaM => Laws.HeadOfEncoding.anaM
  | .anaA => Laws.HeadOfEncoding.anaA
  | .xraB => Laws.HeadOfEncoding.xraB
  | .xraC => Laws.HeadOfEncoding.xraC
  | .xraD => Laws.HeadOfEncoding.xraD
  | .xraE => Laws.HeadOfEncoding.xraE
  | .xraH => Laws.HeadOfEncoding.xraH
  | .xraL => Laws.HeadOfEncoding.xraL
  | .xraM => Laws.HeadOfEncoding.xraM
  | .xraA => Laws.HeadOfEncoding.xraA
  | .oraB => Laws.HeadOfEncoding.oraB
  | .oraC => Laws.HeadOfEncoding.oraC
  | .oraD => Laws.HeadOfEncoding.oraD
  | .oraE => Laws.HeadOfEncoding.oraE
  | .oraH => Laws.HeadOfEncoding.oraH
  | .oraL => Laws.HeadOfEncoding.oraL
  | .oraM => Laws.HeadOfEncoding.oraM
  | .oraA => Laws.HeadOfEncoding.oraA
  | .cmpB => Laws.HeadOfEncoding.cmpB
  | .cmpC => Laws.HeadOfEncoding.cmpC
  | .cmpD => Laws.HeadOfEncoding.cmpD
  | .cmpE => Laws.HeadOfEncoding.cmpE
  | .cmpH => Laws.HeadOfEncoding.cmpH
  | .cmpL => Laws.HeadOfEncoding.cmpL
  | .cmpM => Laws.HeadOfEncoding.cmpM
  | .cmpA => Laws.HeadOfEncoding.cmpA
  | .rnz => Laws.HeadOfEncoding.rnz
  | .popB => Laws.HeadOfEncoding.popB
  | .jnz a16 => Laws.HeadOfEncoding.jnz a16
  | .jmp a16 => Laws.HeadOfEncoding.jmp a16
  | .cnz a16 => Laws.HeadOfEncoding.cnz a16
  | .pushB => Laws.HeadOfEncoding.pushB
  | .adi d8 => Laws.HeadOfEncoding.adi d8
  | .rst0 => Laws.HeadOfEncoding.rst0
  | .rz => Laws.HeadOfEncoding.rz
  | .ret => Laws.HeadOfEncoding.ret
  | .jz a16 => Laws.HeadOfEncoding.jz a16
  | .aliasCB => Laws.HeadOfEncoding.aliasCB
  | .cz a16 => Laws.HeadOfEncoding.cz a16
  | .call a16 => Laws.HeadOfEncoding.call a16
  | .aci d8 => Laws.HeadOfEncoding.aci d8
  | .rst1 => Laws.HeadOfEncoding.rst1
  | .rnc => Laws.HeadOfEncoding.rnc
  | .popD => Laws.HeadOfEncoding.popD
  | .jnc a16 => Laws.HeadOfEncoding.jnc a16
  | .out p8 => Laws.HeadOfEncoding.out p8
  | .cnc a16 => Laws.HeadOfEncoding.cnc a16
  | .pushD => Laws.HeadOfEncoding.pushD
  | .sui d8 => Laws.HeadOfEncoding.sui d8
  | .rst2 => Laws.HeadOfEncoding.rst2
  | .rc => Laws.HeadOfEncoding.rc
  | .aliasD9 => Laws.HeadOfEncoding.aliasD9
  | .jc a16 => Laws.HeadOfEncoding.jc a16
  | .inp p8 => Laws.HeadOfEncoding.inp p8
  | .cc a16 => Laws.HeadOfEncoding.cc a16
  | .aliasDD => Laws.HeadOfEncoding.aliasDD
  | .sbi d8 => Laws.HeadOfEncoding.sbi d8
  | .rst3 => Laws.HeadOfEncoding.rst3
  | .rpo => Laws.HeadOfEncoding.rpo
  | .popH => Laws.HeadOfEncoding.popH
  | .jpo a16 => Laws.HeadOfEncoding.jpo a16
  | .xthl => Laws.HeadOfEncoding.xthl
  | .cpo a16 => Laws.HeadOfEncoding.cpo a16
  | .pushH => Laws.HeadOfEncoding.pushH
  | .ani d8 => Laws.HeadOfEncoding.ani d8
  | .rst4 => Laws.HeadOfEncoding.rst4
  | .rpe => Laws.HeadOfEncoding.rpe
  | .pchl => Laws.HeadOfEncoding.pchl
  | .jpe a16 => Laws.HeadOfEncoding.jpe a16
  | .xchg => Laws.HeadOfEncoding.xchg
  | .cpe a16 => Laws.HeadOfEncoding.cpe a16
  | .aliasED => Laws.HeadOfEncoding.aliasED
  | .xri d8 => Laws.HeadOfEncoding.xri d8
  | .rst5 => Laws.HeadOfEncoding.rst5
  | .rp => Laws.HeadOfEncoding.rp
  | .popPsw => Laws.HeadOfEncoding.popPsw
  | .jp a16 => Laws.HeadOfEncoding.jp a16
  | .di => Laws.HeadOfEncoding.di
  | .cp a16 => Laws.HeadOfEncoding.cp a16
  | .pushPsw => Laws.HeadOfEncoding.pushPsw
  | .ori d8 => Laws.HeadOfEncoding.ori d8
  | .rst6 => Laws.HeadOfEncoding.rst6
  | .rm => Laws.HeadOfEncoding.rm
  | .sphl => Laws.HeadOfEncoding.sphl
  | .jm a16 => Laws.HeadOfEncoding.jm a16
  | .ei => Laws.HeadOfEncoding.ei
  | .cm a16 => Laws.HeadOfEncoding.cm a16
  | .aliasFD => Laws.HeadOfEncoding.aliasFD
  | .cpi d8 => Laws.HeadOfEncoding.cpi d8
  | .rst7 => Laws.HeadOfEncoding.rst7

theorem exec_mov (d r : Slot) (s : State) (h : ¬(d = .mem ∧ r = .mem)) :
    exec (.mov d r) s = perform (.mov d r) (moveSlot d r) s := by
  cases d <;> cases r <;> (try rename_i x; cases x) <;> (try rename_i y; cases y) <;> first | rfl | exact absurd ⟨rfl, rfl⟩ h

theorem exec_mvi (d : Slot) (v : Byte) (s : State) :
    exec (.mvi d v) s = perform (.mvi d v) (storeSlot d v) s := by
  cases d <;> (try rename_i x; cases x) <;> rfl

theorem exec_lxi (rr : RegPair) (v : Word) (s : State) :
    exec (.lxi rr v) s = perform (.lxi rr v) (loadPair rr v) s := by
  cases rr <;> rfl

theorem exec_ldax (r : IndirectPair) (s : State) :
    exec (.ldax r) s = perform (.ldax r) (loadAIndirect r) s := by
  cases r <;> rfl

theorem exec_stax (r : IndirectPair) (s : State) :
    exec (.stax r) s = perform (.stax r) (storeAIndirect r) s := by
  cases r <;> rfl

theorem exec_push (rr : StackPair) (s : State) :
    exec (.push rr) s = perform (.push rr) (pushPair rr) s := by
  cases rr <;> rfl

theorem exec_pop (rr : StackPair) (s : State) :
    exec (.pop rr) s = perform (.pop rr) (popPair rr) s := by
  cases rr <;> rfl

theorem exec_inx (rr : RegPair) (s : State) :
    exec (.inx rr) s = perform (.inx rr) (incrementPair rr) s := by
  cases rr <;> rfl

theorem exec_dcx (rr : RegPair) (s : State) :
    exec (.dcx rr) s = perform (.dcx rr) (decrementPair rr) s := by
  cases rr <;> rfl

theorem exec_dad (rr : RegPair) (s : State) :
    exec (.dad rr) s = perform (.dad rr) (addToHl rr) s := by
  cases rr <;> rfl

theorem exec_alu (op : AluOp) (d : Slot) (s : State) :
    exec (.alu op d) s = perform (.alu op d) (aluSlot op d) s := by
  cases op <;> cases d <;> (try rename_i x; cases x) <;> rfl

theorem exec_aluImm (op : AluOp) (v : Byte) (s : State) :
    exec (.aluImm op v) s = perform (.aluImm op v) (aluImmediate op v) s := by
  cases op <;> rfl

theorem exec_inr (d : Slot) (s : State) :
    exec (.inr d) s = perform (.inr d) (incrementSlot d) s := by
  cases d <;> (try rename_i x; cases x) <;> rfl

theorem exec_dcr (d : Slot) (s : State) :
    exec (.dcr d) s = perform (.dcr d) (decrementSlot d) s := by
  cases d <;> (try rename_i x; cases x) <;> rfl

theorem exec_rcc (cc : Cond) (s : State) :
    exec (.rcc cc) s = perform (.rcc cc) (returnIf cc) s := by
  cases cc <;> rfl

theorem exec_jcc (cc : Cond) (a : Addr) (s : State) :
    exec (.jcc cc a) s = perform (.jcc cc a) (jumpIf cc a) s := by
  cases cc <;> rfl

theorem exec_ccc (cc : Cond) (a : Addr) (s : State) :
    exec (.ccc cc a) s = perform (.ccc cc a) (callIf cc a) s := by
  cases cc <;> rfl

theorem exec_rst (n : Nat) (s : State) (h : n < 8) :
    exec (.rst n) s = perform (.rst n) (restart n) s := by
  match n, h with
  | 0, _ | 1, _ | 2, _ | 3, _ | 4, _ | 5, _ | 6, _ | 7, _ => rfl

end Sys2Proof.Machine
end

