-- ==== Sys2Proof/Laws/Memory.lean ====
section
/-! SUPPORT. The laws of sparse memory: a read after a write, and every operation keeps the canonical form and the
bound. -/

namespace Sys2Proof.Machine

@[simp] theorem Memory.read_nil (i : Nat) : Memory.read [] i = 0 := rfl

theorem Memory.wfFrom_mono {m : Memory} {lo lo' : Nat} (h : lo' ≤ lo) (hm : m.wfFrom lo = true) :
    m.wfFrom lo' = true := by
  cases m with
  | nil => rfl
  | cons cell rest =>
    simp only [Memory.wfFrom, Bool.and_eq_true, decide_eq_true_eq] at hm ⊢
    exact ⟨⟨le_trans h hm.1.1, hm.1.2⟩, hm.2⟩

/-- Below its first index a canonical memory lists nothing. -/
theorem Memory.read_of_lt {m : Memory} {lo i : Nat} (hm : m.wfFrom lo = true) (h : i < lo) : m.read i = 0 := by
  induction m generalizing lo with
  | nil => rfl
  | cons cell rest ih =>
    simp only [Memory.wfFrom, Bool.and_eq_true, decide_eq_true_eq] at hm
    have hne : cell.1 ≠ i := by omega
    simp only [Memory.read, hne, if_false]
    exact ih hm.2 (by omega)

theorem Memory.read_cons_ne {m : Memory} {i j : Nat} {v : Byte} (h : j ≠ i) :
    (Memory.cons i v m).read j = m.read j := by
  unfold Memory.cons
  split
  · rfl
  · simp only [Memory.read, if_neg (Ne.symm h)]

theorem Memory.read_cons_self {m : Memory} {i : Nat} {v : Byte} (h : m.read i = 0) :
    (Memory.cons i v m).read i = v := by
  unfold Memory.cons
  split
  · rename_i hv; rw [h, hv]; rfl
  · simp only [Memory.read, if_true]

/-- A write leaves every other index alone. -/
theorem Memory.read_write_ne (m : Memory) {i j : Nat} (v : Byte) (h : j ≠ i) :
    (m.write i v).read j = m.read j := by
  induction m with
  | nil => simp only [Memory.write, Memory.read_cons_ne h]
  | cons cell rest ih =>
    obtain ⟨k, b⟩ := cell
    simp only [Memory.write]
    split
    · exact Memory.read_cons_ne h
    · split
      · rename_i hik
        subst hik
        simp only [Memory.read_cons_ne h, Memory.read, if_neg (Ne.symm h)]
      · simp only [Memory.read, ih]

theorem Memory.read_write_self_from {m : Memory} {lo : Nat} (hm : m.wfFrom lo = true) (i : Nat) (v : Byte) :
    (m.write i v).read i = v := by
  induction m generalizing lo with
  | nil => exact Memory.read_cons_self rfl
  | cons cell rest ih =>
    obtain ⟨k, b⟩ := cell
    simp only [Memory.wfFrom, Bool.and_eq_true, decide_eq_true_eq] at hm
    simp only [Memory.write]
    split
    · refine Memory.read_cons_self ?_
      have hki : k ≠ i := by omega
      simp only [Memory.read, hki, if_false]
      exact Memory.read_of_lt hm.2 (by omega)
    · split
      · rename_i hik
        subst hik
        exact Memory.read_cons_self (Memory.read_of_lt hm.2 (by omega))
      · have hki : k ≠ i := by omega
        simp only [Memory.read, hki, if_false]
        exact ih hm.2

/-- A canonical memory reads back what was written. -/
theorem Memory.read_write_self {m : Memory} (hm : m.wf = true) (i : Nat) (v : Byte) : (m.write i v).read i = v :=
  Memory.read_write_self_from hm i v

theorem Memory.cons_wfFrom {m : Memory} {lo i : Nat} {v : Byte} (hlo : lo ≤ i) (hm : m.wfFrom (i + 1) = true) :
    (Memory.cons i v m).wfFrom lo = true := by
  unfold Memory.cons
  split
  · exact Memory.wfFrom_mono (by omega) hm
  · simp [Memory.wfFrom, *]

theorem Memory.write_wfFrom {m : Memory} {lo i : Nat} (v : Byte) (hlo : lo ≤ i) (hm : m.wfFrom lo = true) :
    (m.write i v).wfFrom lo = true := by
  induction m generalizing lo with
  | nil => exact Memory.cons_wfFrom hlo rfl
  | cons cell rest ih =>
    obtain ⟨k, b⟩ := cell
    have hm' := hm
    simp only [Memory.wfFrom, Bool.and_eq_true, decide_eq_true_eq] at hm
    simp only [Memory.write]
    split
    · refine Memory.cons_wfFrom hlo ?_
      simp only [Memory.wfFrom, Bool.and_eq_true, decide_eq_true_eq]
      exact ⟨⟨by omega, hm.1.2⟩, hm.2⟩
    · split
      · rename_i hik
        subst hik
        exact Memory.cons_wfFrom hlo hm.2
      · simp only [Memory.wfFrom, Bool.and_eq_true, decide_eq_true_eq]
        exact ⟨⟨hm.1.1, hm.1.2⟩, ih (by omega) hm.2⟩

/-- A write keeps the canonical form. -/
theorem Memory.write_wf {m : Memory} (hm : m.wf = true) (i : Nat) (v : Byte) : (m.write i v).wf = true :=
  Memory.write_wfFrom v (Nat.zero_le i) hm

theorem Memory.cons_below {m : Memory} {bound i : Nat} {v : Byte} (h : i < bound) (hm : m.below bound = true) :
    (Memory.cons i v m).below bound = true := by
  unfold Memory.cons
  split
  · exact hm
  · simpa [Memory.below, h] using hm

/-- A write below the bound keeps the bound. -/
theorem Memory.write_below {m : Memory} {bound i : Nat} (v : Byte) (h : i < bound) (hm : m.below bound = true) :
    (m.write i v).below bound = true := by
  induction m with
  | nil => exact Memory.cons_below h rfl
  | cons cell rest ih =>
    obtain ⟨k, b⟩ := cell
    have hm' : k < bound ∧ Memory.below bound rest = true := by simpa [Memory.below] using hm
    simp only [Memory.write]
    split
    · exact Memory.cons_below h hm
    · split
      · exact Memory.cons_below h hm'.2
      · have := ih hm'.2
        simpa [Memory.below, hm'.1] using this

/-- Storing a run of bytes keeps the canonical form. -/
theorem Memory.writeAll_wf {m : Memory} (hm : m.wf = true) (i : Nat) (bytes : List Byte) :
    (m.writeAll i bytes).wf = true := by
  induction bytes generalizing m i with
  | nil => exact hm
  | cons v rest ih => exact ih (Memory.write_wf hm i v) (i + 1)

/-- Storing a run of bytes leaves every index outside the run alone. -/
theorem Memory.read_writeAll_outside (m : Memory) (i : Nat) (bytes : List Byte) {j : Nat}
    (h : j < i ∨ i + bytes.length ≤ j) : (m.writeAll i bytes).read j = m.read j := by
  induction bytes generalizing m i with
  | nil => rfl
  | cons v rest ih =>
    simp only [List.length_cons] at h
    rw [Memory.writeAll, ih _ _ (by omega), Memory.read_write_ne _ _ (by omega)]

/-- Storing a run of bytes stores each of them. -/
theorem Memory.read_writeAll_inside {m : Memory} (hm : m.wf = true) (i : Nat) (bytes : List Byte) {k : Nat} {v : Byte}
    (h : bytes[k]? = some v) : (m.writeAll i bytes).read (i + k) = v := by
  induction bytes generalizing m i k with
  | nil => simp at h
  | cons w rest ih =>
    cases k with
    | zero =>
      obtain rfl : w = v := by simpa using h
      rw [Memory.writeAll, Memory.read_writeAll_outside _ _ _ (by omega), Nat.add_zero, Memory.read_write_self hm]
    | succ k =>
      have := ih (Memory.write_wf hm i w) (i + 1) (k := k) (by simpa using h)
      rwa [show i + (k + 1) = i + 1 + k by omega, Memory.writeAll]

end Sys2Proof.Machine
end

