-- ==== Sys2Proof/Laws/State.lean ====
section
/-! SUPPORT. One lemma for each field after each named update of the state. -/

namespace Sys2Proof.Machine

@[simp] theorem State.takeFault_regs (s : State) (k : FaultKind) (a : Addr) (b : Option Byte) :
    (s.takeFault k a b).regs = s.regs :=
  rfl
@[simp] theorem State.takeFault_sp (s : State) (k : FaultKind) (a : Addr) (b : Option Byte) :
    (s.takeFault k a b).sp = s.sp :=
  rfl
@[simp] theorem State.takeFault_pc (s : State) (k : FaultKind) (a : Addr) (b : Option Byte) :
    (s.takeFault k a b).pc = s.pc :=
  rfl
@[simp] theorem State.takeFault_flags (s : State) (k : FaultKind) (a : Addr) (b : Option Byte) :
    (s.takeFault k a b).flags = s.flags :=
  rfl
@[simp] theorem State.takeFault_ime (s : State) (k : FaultKind) (a : Addr) (b : Option Byte) :
    (s.takeFault k a b).ime = s.ime :=
  rfl
@[simp] theorem State.takeFault_mem (s : State) (k : FaultKind) (a : Addr) (b : Option Byte) :
    (s.takeFault k a b).mem = s.mem :=
  rfl
@[simp] theorem State.takeFault_latch (s : State) (k : FaultKind) (a : Addr) (b : Option Byte) :
    (s.takeFault k a b).latch = s.latch :=
  rfl
@[simp] theorem State.takeFault_shifter (s : State) (k : FaultKind) (a : Addr) (b : Option Byte) :
    (s.takeFault k a b).shifter = s.shifter :=
  rfl
@[simp] theorem State.takeFault_altLast (s : State) (k : FaultKind) (a : Addr) (b : Option Byte) :
    (s.takeFault k a b).altLast = s.altLast :=
  rfl
@[simp] theorem State.takeFault_dirty (s : State) (k : FaultKind) (a : Addr) (b : Option Byte) :
    (s.takeFault k a b).dirty = s.dirty :=
  rfl
@[simp] theorem State.takeFault_events (s : State) (k : FaultKind) (a : Addr) (b : Option Byte) :
    (s.takeFault k a b).events = s.events :=
  rfl
@[simp] theorem State.takeFault_halted (s : State) (k : FaultKind) (a : Addr) (b : Option Byte) :
    (s.takeFault k a b).halted = s.halted :=
  rfl
@[simp] theorem State.takeFault_fault (s : State) (k : FaultKind) (a : Addr) (b : Option Byte) :
    (s.takeFault k a b).fault = some { kind := k, addr := a, byte := b } :=
  rfl
@[simp] theorem State.takeFault_cfg (s : State) (k : FaultKind) (a : Addr) (b : Option Byte) :
    (s.takeFault k a b).cfg = s.cfg :=
  rfl
@[simp] theorem State.takeFault_timeline (s : State) (k : FaultKind) (a : Addr) (b : Option Byte) :
    (s.takeFault k a b).timeline = s.timeline :=
  rfl

@[simp] theorem State.emit_regs (s : State) (a : Addr) (v : Byte) : (s.emit a v).regs = s.regs := rfl
@[simp] theorem State.emit_sp (s : State) (a : Addr) (v : Byte) : (s.emit a v).sp = s.sp := rfl
@[simp] theorem State.emit_pc (s : State) (a : Addr) (v : Byte) : (s.emit a v).pc = s.pc := rfl
@[simp] theorem State.emit_flags (s : State) (a : Addr) (v : Byte) : (s.emit a v).flags = s.flags := rfl
@[simp] theorem State.emit_ime (s : State) (a : Addr) (v : Byte) : (s.emit a v).ime = s.ime := rfl
@[simp] theorem State.emit_mem (s : State) (a : Addr) (v : Byte) : (s.emit a v).mem = s.mem := rfl
@[simp] theorem State.emit_latch (s : State) (a : Addr) (v : Byte) : (s.emit a v).latch = s.latch := rfl
@[simp] theorem State.emit_shifter (s : State) (a : Addr) (v : Byte) :
    (s.emit a v).shifter = s.shifter := rfl
@[simp] theorem State.emit_altLast (s : State) (a : Addr) (v : Byte) :
    (s.emit a v).altLast = s.altLast := rfl
@[simp] theorem State.emit_dirty (s : State) (a : Addr) (v : Byte) : (s.emit a v).dirty = s.dirty := rfl
@[simp] theorem State.emit_events (s : State) (a : Addr) (v : Byte) :
    (s.emit a v).events = s.events ++ [{ addr := a, byte := v }] :=
  rfl
@[simp] theorem State.emit_halted (s : State) (a : Addr) (v : Byte) :
    (s.emit a v).halted = s.halted := rfl
@[simp] theorem State.emit_fault (s : State) (a : Addr) (v : Byte) : (s.emit a v).fault = s.fault := rfl
@[simp] theorem State.emit_cfg (s : State) (a : Addr) (v : Byte) : (s.emit a v).cfg = s.cfg := rfl
@[simp] theorem State.emit_timeline (s : State) (a : Addr) (v : Byte) :
    (s.emit a v).timeline = s.timeline := rfl

@[simp] theorem State.advance_regs (s : State) (n : Nat) : (s.advance n).regs = s.regs := rfl
@[simp] theorem State.advance_sp (s : State) (n : Nat) : (s.advance n).sp = s.sp := rfl
@[simp] theorem State.advance_pc (s : State) (n : Nat) :
    (s.advance n).pc = s.pc + BitVec.ofNat 16 n := rfl
@[simp] theorem State.advance_flags (s : State) (n : Nat) : (s.advance n).flags = s.flags := rfl
@[simp] theorem State.advance_ime (s : State) (n : Nat) : (s.advance n).ime = s.ime := rfl
@[simp] theorem State.advance_mem (s : State) (n : Nat) : (s.advance n).mem = s.mem := rfl
@[simp] theorem State.advance_latch (s : State) (n : Nat) : (s.advance n).latch = s.latch := rfl
@[simp] theorem State.advance_shifter (s : State) (n : Nat) : (s.advance n).shifter = s.shifter := rfl
@[simp] theorem State.advance_altLast (s : State) (n : Nat) : (s.advance n).altLast = s.altLast := rfl
@[simp] theorem State.advance_dirty (s : State) (n : Nat) : (s.advance n).dirty = s.dirty := rfl
@[simp] theorem State.advance_events (s : State) (n : Nat) : (s.advance n).events = s.events := rfl
@[simp] theorem State.advance_halted (s : State) (n : Nat) : (s.advance n).halted = s.halted := rfl
@[simp] theorem State.advance_fault (s : State) (n : Nat) : (s.advance n).fault = s.fault := rfl
@[simp] theorem State.advance_cfg (s : State) (n : Nat) : (s.advance n).cfg = s.cfg := rfl
@[simp] theorem State.advance_timeline (s : State) (n : Nat) :
    (s.advance n).timeline = s.timeline := rfl

@[simp] theorem State.setReg_regs (s : State) (r : Reg) (v : Byte) :
    (s.setReg r v).regs = s.regs.set r v := rfl
@[simp] theorem State.setReg_sp (s : State) (r : Reg) (v : Byte) : (s.setReg r v).sp = s.sp := rfl
@[simp] theorem State.setReg_pc (s : State) (r : Reg) (v : Byte) : (s.setReg r v).pc = s.pc := rfl
@[simp] theorem State.setReg_flags (s : State) (r : Reg) (v : Byte) :
    (s.setReg r v).flags = s.flags := rfl
@[simp] theorem State.setReg_ime (s : State) (r : Reg) (v : Byte) : (s.setReg r v).ime = s.ime := rfl
@[simp] theorem State.setReg_mem (s : State) (r : Reg) (v : Byte) : (s.setReg r v).mem = s.mem := rfl
@[simp] theorem State.setReg_latch (s : State) (r : Reg) (v : Byte) :
    (s.setReg r v).latch = s.latch := rfl
@[simp] theorem State.setReg_shifter (s : State) (r : Reg) (v : Byte) :
    (s.setReg r v).shifter = s.shifter := rfl
@[simp] theorem State.setReg_altLast (s : State) (r : Reg) (v : Byte) :
    (s.setReg r v).altLast = s.altLast := rfl
@[simp] theorem State.setReg_dirty (s : State) (r : Reg) (v : Byte) :
    (s.setReg r v).dirty = s.dirty := rfl
@[simp] theorem State.setReg_events (s : State) (r : Reg) (v : Byte) :
    (s.setReg r v).events = s.events := rfl
@[simp] theorem State.setReg_halted (s : State) (r : Reg) (v : Byte) :
    (s.setReg r v).halted = s.halted := rfl
@[simp] theorem State.setReg_fault (s : State) (r : Reg) (v : Byte) :
    (s.setReg r v).fault = s.fault := rfl
@[simp] theorem State.setReg_cfg (s : State) (r : Reg) (v : Byte) : (s.setReg r v).cfg = s.cfg := rfl
@[simp] theorem State.setReg_timeline (s : State) (r : Reg) (v : Byte) :
    (s.setReg r v).timeline = s.timeline :=
  rfl

@[simp] theorem State.setPair_pc (s : State) (rr : RegPair) (v : Word) :
    (s.setPair rr v).pc = s.pc :=
  by cases rr <;> rfl
@[simp] theorem State.setPair_flags (s : State) (rr : RegPair) (v : Word) :
    (s.setPair rr v).flags = s.flags :=
  by cases rr <;> rfl
@[simp] theorem State.setPair_ime (s : State) (rr : RegPair) (v : Word) :
    (s.setPair rr v).ime = s.ime :=
  by cases rr <;> rfl
@[simp] theorem State.setPair_mem (s : State) (rr : RegPair) (v : Word) :
    (s.setPair rr v).mem = s.mem :=
  by cases rr <;> rfl
@[simp] theorem State.setPair_latch (s : State) (rr : RegPair) (v : Word) :
    (s.setPair rr v).latch = s.latch :=
  by cases rr <;> rfl
@[simp] theorem State.setPair_shifter (s : State) (rr : RegPair) (v : Word) :
    (s.setPair rr v).shifter = s.shifter :=
  by cases rr <;> rfl
@[simp] theorem State.setPair_altLast (s : State) (rr : RegPair) (v : Word) :
    (s.setPair rr v).altLast = s.altLast :=
  by cases rr <;> rfl
@[simp] theorem State.setPair_dirty (s : State) (rr : RegPair) (v : Word) :
    (s.setPair rr v).dirty = s.dirty :=
  by cases rr <;> rfl
@[simp] theorem State.setPair_events (s : State) (rr : RegPair) (v : Word) :
    (s.setPair rr v).events = s.events :=
  by cases rr <;> rfl
@[simp] theorem State.setPair_halted (s : State) (rr : RegPair) (v : Word) :
    (s.setPair rr v).halted = s.halted :=
  by cases rr <;> rfl
@[simp] theorem State.setPair_fault (s : State) (rr : RegPair) (v : Word) :
    (s.setPair rr v).fault = s.fault :=
  by cases rr <;> rfl
@[simp] theorem State.setPair_cfg (s : State) (rr : RegPair) (v : Word) :
    (s.setPair rr v).cfg = s.cfg :=
  by cases rr <;> rfl
@[simp] theorem State.setPair_timeline (s : State) (rr : RegPair) (v : Word) :
    (s.setPair rr v).timeline = s.timeline :=
  by cases rr <;> rfl

@[simp] theorem State.setStackPair_sp (s : State) (rr : StackPair) (v : Word) :
    (s.setStackPair rr v).sp = s.sp :=
  by cases rr <;> rfl
@[simp] theorem State.setStackPair_pc (s : State) (rr : StackPair) (v : Word) :
    (s.setStackPair rr v).pc = s.pc :=
  by cases rr <;> rfl
@[simp] theorem State.setStackPair_ime (s : State) (rr : StackPair) (v : Word) :
    (s.setStackPair rr v).ime = s.ime :=
  by cases rr <;> rfl
@[simp] theorem State.setStackPair_mem (s : State) (rr : StackPair) (v : Word) :
    (s.setStackPair rr v).mem = s.mem :=
  by cases rr <;> rfl
@[simp] theorem State.setStackPair_latch (s : State) (rr : StackPair) (v : Word) :
    (s.setStackPair rr v).latch = s.latch :=
  by cases rr <;> rfl
@[simp] theorem State.setStackPair_shifter (s : State) (rr : StackPair) (v : Word) :
    (s.setStackPair rr v).shifter = s.shifter :=
  by cases rr <;> rfl
@[simp] theorem State.setStackPair_altLast (s : State) (rr : StackPair) (v : Word) :
    (s.setStackPair rr v).altLast = s.altLast :=
  by cases rr <;> rfl
@[simp] theorem State.setStackPair_dirty (s : State) (rr : StackPair) (v : Word) :
    (s.setStackPair rr v).dirty = s.dirty :=
  by cases rr <;> rfl
@[simp] theorem State.setStackPair_events (s : State) (rr : StackPair) (v : Word) :
    (s.setStackPair rr v).events = s.events :=
  by cases rr <;> rfl
@[simp] theorem State.setStackPair_halted (s : State) (rr : StackPair) (v : Word) :
    (s.setStackPair rr v).halted = s.halted :=
  by cases rr <;> rfl
@[simp] theorem State.setStackPair_fault (s : State) (rr : StackPair) (v : Word) :
    (s.setStackPair rr v).fault = s.fault :=
  by cases rr <;> rfl
@[simp] theorem State.setStackPair_cfg (s : State) (rr : StackPair) (v : Word) :
    (s.setStackPair rr v).cfg = s.cfg :=
  by cases rr <;> rfl
@[simp] theorem State.setStackPair_timeline (s : State) (rr : StackPair) (v : Word) :
    (s.setStackPair rr v).timeline = s.timeline :=
  by cases rr <;> rfl

@[simp] theorem State.latchWrite_regs (s : State) (p b : Byte) : (s.latchWrite p b).regs = s.regs := rfl
@[simp] theorem State.latchWrite_sp (s : State) (p b : Byte) : (s.latchWrite p b).sp = s.sp := rfl
@[simp] theorem State.latchWrite_pc (s : State) (p b : Byte) : (s.latchWrite p b).pc = s.pc := rfl
@[simp] theorem State.latchWrite_flags (s : State) (p b : Byte) :
    (s.latchWrite p b).flags = s.flags := rfl
@[simp] theorem State.latchWrite_ime (s : State) (p b : Byte) : (s.latchWrite p b).ime = s.ime := rfl
@[simp] theorem State.latchWrite_mem (s : State) (p b : Byte) : (s.latchWrite p b).mem = s.mem := rfl
@[simp] theorem State.latchWrite_latch (s : State) (p b : Byte) :
    (s.latchWrite p b).latch = s.latch.write p.toNat b :=
  rfl
@[simp] theorem State.latchWrite_shifter (s : State) (p b : Byte) :
    (s.latchWrite p b).shifter = s.shifter := rfl
@[simp] theorem State.latchWrite_altLast (s : State) (p b : Byte) :
    (s.latchWrite p b).altLast = s.altLast := rfl
@[simp] theorem State.latchWrite_dirty (s : State) (p b : Byte) :
    (s.latchWrite p b).dirty = s.dirty := rfl
@[simp] theorem State.latchWrite_events (s : State) (p b : Byte) :
    (s.latchWrite p b).events = s.events := rfl
@[simp] theorem State.latchWrite_halted (s : State) (p b : Byte) :
    (s.latchWrite p b).halted = s.halted := rfl
@[simp] theorem State.latchWrite_fault (s : State) (p b : Byte) :
    (s.latchWrite p b).fault = s.fault := rfl
@[simp] theorem State.latchWrite_cfg (s : State) (p b : Byte) : (s.latchWrite p b).cfg = s.cfg := rfl
@[simp] theorem State.latchWrite_timeline (s : State) (p b : Byte) :
    (s.latchWrite p b).timeline = s.timeline :=
  rfl

@[simp] theorem State.clearDirty_regs (s : State) : (s.clearDirty).regs = s.regs := rfl
@[simp] theorem State.clearDirty_sp (s : State) : (s.clearDirty).sp = s.sp := rfl
@[simp] theorem State.clearDirty_pc (s : State) : (s.clearDirty).pc = s.pc := rfl
@[simp] theorem State.clearDirty_flags (s : State) : (s.clearDirty).flags = s.flags := rfl
@[simp] theorem State.clearDirty_ime (s : State) : (s.clearDirty).ime = s.ime := rfl
@[simp] theorem State.clearDirty_mem (s : State) : (s.clearDirty).mem = s.mem := rfl
@[simp] theorem State.clearDirty_latch (s : State) : (s.clearDirty).latch = s.latch := rfl
@[simp] theorem State.clearDirty_shifter (s : State) : (s.clearDirty).shifter = s.shifter := rfl
@[simp] theorem State.clearDirty_altLast (s : State) : (s.clearDirty).altLast = s.altLast := rfl
@[simp] theorem State.clearDirty_dirty (s : State) : (s.clearDirty).dirty = false := rfl
@[simp] theorem State.clearDirty_events (s : State) : (s.clearDirty).events = s.events := rfl
@[simp] theorem State.clearDirty_halted (s : State) : (s.clearDirty).halted = s.halted := rfl
@[simp] theorem State.clearDirty_fault (s : State) : (s.clearDirty).fault = s.fault := rfl
@[simp] theorem State.clearDirty_cfg (s : State) : (s.clearDirty).cfg = s.cfg := rfl
@[simp] theorem State.clearDirty_timeline (s : State) : (s.clearDirty).timeline = s.timeline := rfl

@[simp] theorem State.gate_regs (s : State) (i : Nat) (a : Addr) (v : Byte) :
    (s.gate i a v).regs = s.regs := by
  unfold State.gate; split <;> (try split) <;> rfl
@[simp] theorem State.gate_sp (s : State) (i : Nat) (a : Addr) (v : Byte) :
    (s.gate i a v).sp = s.sp := by
  unfold State.gate; split <;> (try split) <;> rfl
@[simp] theorem State.gate_pc (s : State) (i : Nat) (a : Addr) (v : Byte) :
    (s.gate i a v).pc = s.pc := by
  unfold State.gate; split <;> (try split) <;> rfl
@[simp] theorem State.gate_flags (s : State) (i : Nat) (a : Addr) (v : Byte) :
    (s.gate i a v).flags = s.flags := by
  unfold State.gate; split <;> (try split) <;> rfl
@[simp] theorem State.gate_ime (s : State) (i : Nat) (a : Addr) (v : Byte) :
    (s.gate i a v).ime = s.ime := by
  unfold State.gate; split <;> (try split) <;> rfl
@[simp] theorem State.gate_latch (s : State) (i : Nat) (a : Addr) (v : Byte) :
    (s.gate i a v).latch = s.latch := by
  unfold State.gate; split <;> (try split) <;> rfl
@[simp] theorem State.gate_shifter (s : State) (i : Nat) (a : Addr) (v : Byte) :
    (s.gate i a v).shifter = s.shifter := by
  unfold State.gate; split <;> (try split) <;> rfl
@[simp] theorem State.gate_altLast (s : State) (i : Nat) (a : Addr) (v : Byte) :
    (s.gate i a v).altLast = s.altLast := by
  unfold State.gate; split <;> (try split) <;> rfl
@[simp] theorem State.gate_halted (s : State) (i : Nat) (a : Addr) (v : Byte) :
    (s.gate i a v).halted = s.halted := by
  unfold State.gate; split <;> (try split) <;> rfl
@[simp] theorem State.gate_fault (s : State) (i : Nat) (a : Addr) (v : Byte) :
    (s.gate i a v).fault = s.fault := by
  unfold State.gate; split <;> (try split) <;> rfl
@[simp] theorem State.gate_cfg (s : State) (i : Nat) (a : Addr) (v : Byte) :
    (s.gate i a v).cfg = s.cfg := by
  unfold State.gate; split <;> (try split) <;> rfl
@[simp] theorem State.gate_timeline (s : State) (i : Nat) (a : Addr) (v : Byte) :
    (s.gate i a v).timeline = s.timeline := by
  unfold State.gate; split <;> (try split) <;> rfl

@[simp] theorem State.portOut_regs (s : State) (p v : Byte) : (s.portOut p v).regs = s.regs := by
  unfold State.portOut; split <;> (try split) <;> rfl
@[simp] theorem State.portOut_sp (s : State) (p v : Byte) : (s.portOut p v).sp = s.sp := by
  unfold State.portOut; split <;> (try split) <;> rfl
@[simp] theorem State.portOut_pc (s : State) (p v : Byte) : (s.portOut p v).pc = s.pc := by
  unfold State.portOut; split <;> (try split) <;> rfl
@[simp] theorem State.portOut_flags (s : State) (p v : Byte) : (s.portOut p v).flags = s.flags := by
  unfold State.portOut; split <;> (try split) <;> rfl
@[simp] theorem State.portOut_ime (s : State) (p v : Byte) : (s.portOut p v).ime = s.ime := by
  unfold State.portOut; split <;> (try split) <;> rfl
@[simp] theorem State.portOut_mem (s : State) (p v : Byte) : (s.portOut p v).mem = s.mem := by
  unfold State.portOut; split <;> (try split) <;> rfl
@[simp] theorem State.portOut_latch (s : State) (p v : Byte) : (s.portOut p v).latch = s.latch := by
  unfold State.portOut; split <;> (try split) <;> rfl
@[simp] theorem State.portOut_altLast (s : State) (p v : Byte) :
    (s.portOut p v).altLast = s.altLast := by
  unfold State.portOut; split <;> (try split) <;> rfl
@[simp] theorem State.portOut_dirty (s : State) (p v : Byte) : (s.portOut p v).dirty = s.dirty := by
  unfold State.portOut; split <;> (try split) <;> rfl
@[simp] theorem State.portOut_events (s : State) (p v : Byte) : (s.portOut p v).events = s.events := by
  unfold State.portOut; split <;> (try split) <;> rfl
@[simp] theorem State.portOut_halted (s : State) (p v : Byte) : (s.portOut p v).halted = s.halted := by
  unfold State.portOut; split <;> (try split) <;> rfl
@[simp] theorem State.portOut_fault (s : State) (p v : Byte) : (s.portOut p v).fault = s.fault := by
  unfold State.portOut; split <;> (try split) <;> rfl
@[simp] theorem State.portOut_cfg (s : State) (p v : Byte) : (s.portOut p v).cfg = s.cfg := by
  unfold State.portOut; split <;> (try split) <;> rfl
@[simp] theorem State.portOut_timeline (s : State) (p v : Byte) :
    (s.portOut p v).timeline = s.timeline := by
  unfold State.portOut; split <;> (try split) <;> rfl

@[simp] theorem alu_sp (op : AluOp) (v : Byte) (s : State) : (alu op v s).sp = s.sp := rfl
@[simp] theorem alu_pc (op : AluOp) (v : Byte) (s : State) : (alu op v s).pc = s.pc := rfl
@[simp] theorem alu_flags (op : AluOp) (v : Byte) (s : State) :
    (alu op v s).flags = aluFlags s.cfg.subCySense op s.regs.a v s.flags :=
  rfl
@[simp] theorem alu_ime (op : AluOp) (v : Byte) (s : State) : (alu op v s).ime = s.ime := rfl
@[simp] theorem alu_mem (op : AluOp) (v : Byte) (s : State) : (alu op v s).mem = s.mem := rfl
@[simp] theorem alu_latch (op : AluOp) (v : Byte) (s : State) : (alu op v s).latch = s.latch := rfl
@[simp] theorem alu_shifter (op : AluOp) (v : Byte) (s : State) :
    (alu op v s).shifter = s.shifter := rfl
@[simp] theorem alu_altLast (op : AluOp) (v : Byte) (s : State) :
    (alu op v s).altLast = s.altLast := rfl
@[simp] theorem alu_dirty (op : AluOp) (v : Byte) (s : State) : (alu op v s).dirty = s.dirty := rfl
@[simp] theorem alu_events (op : AluOp) (v : Byte) (s : State) : (alu op v s).events = s.events := rfl
@[simp] theorem alu_halted (op : AluOp) (v : Byte) (s : State) : (alu op v s).halted = s.halted := rfl
@[simp] theorem alu_fault (op : AluOp) (v : Byte) (s : State) : (alu op v s).fault = s.fault := rfl
@[simp] theorem alu_cfg (op : AluOp) (v : Byte) (s : State) : (alu op v s).cfg = s.cfg := rfl
@[simp] theorem alu_timeline (op : AluOp) (v : Byte) (s : State) :
    (alu op v s).timeline = s.timeline := rfl

end Sys2Proof.Machine
end

