-- ==== Sys2Proof/Laws/Ops.lean ====
section
/-! SUPPORT. What each shared operation can do, said once: reads, the gate, word writes, the stack, running an
instruction. -/

namespace Sys2Proof.Machine

variable {s t : State} {a : Addr} {v : Byte} {i j : Nat}

/-! ### Reads -/

theorem peek_of_index (h : indexOf s.cfg a = some i) : s.peek a = some (s.mem.read i) := by
  simp [State.peek, h]

theorem peek_of_no_index (h : indexOf s.cfg a = none) : s.peek a = none := by
  simp [State.peek, h]

theorem loadByte_of_index (h : indexOf s.cfg a = some i) (k : Byte → Access) :
    s.loadByte a k = k (s.mem.read i) := by
  simp [State.loadByte, peek_of_index h]

theorem loadByte_of_no_index (h : indexOf s.cfg a = none) (k : Byte → Access) :
    s.loadByte a k = .outOfRange s a := by
  simp [State.loadByte, peek_of_no_index h]

theorem loadWord_of_index (h : indexOf s.cfg a = some i) (h' : indexOf s.cfg (a + 1) = some j) (k : Word → Access) :
    s.loadWord a k = k (Word.join (s.mem.read j) (s.mem.read i)) := by
  simp only [State.loadWord, loadByte_of_index h, loadByte_of_index h']

theorem loadWord_of_no_index (h : indexOf s.cfg a = none) (k : Word → Access) :
    s.loadWord a k = .outOfRange s a := loadByte_of_no_index h _

theorem loadWord_of_no_second_index (h : indexOf s.cfg a ≠ none) (h' : indexOf s.cfg (a + 1) = none)
    (k : Word → Access) : s.loadWord a k = .outOfRange s (a + 1) := by
  obtain ⟨i, hi⟩ := Option.ne_none_iff_exists'.mp h
  simp only [State.loadWord, loadByte_of_index hi, loadByte_of_no_index h']

/-- An index is always below `MEM_SIZE` where the parameters satisfy R7. -/
theorem indexOf_lt {c : Config} (hc : c.wf = true) (h : indexOf c a = some i) : i < c.memSize := by
  have hpos : 0 < c.memSize := by
    simp only [Config.wf, Config.regionsOrdered, Bool.and_eq_true, decide_eq_true_eq] at hc
    omega
  unfold indexOf at h
  split at h
  · simp only [Option.some.injEq] at h; omega
  · split at h
    · cases h
    · simp only [Option.some.injEq] at h
      exact h ▸ Nat.mod_lt _ hpos

theorem indexOf_of_lt {c : Config} (h : a.toNat < c.memSize) : indexOf c a = some a.toNat := by
  simp [indexOf, h]

/-! ### The gate -/

theorem gate_read_ne (h : j ≠ i) : (s.gate i a v).mem.read j = s.mem.read j := by
  unfold State.gate
  split
  · rfl
  · split <;> exact Memory.read_write_ne _ _ h

theorem gate_mem_of_protected (h : i < s.cfg.protectLimit) : (s.gate i a v).mem = s.mem := by
  simp [State.gate, h]

theorem gate_mem_of_writable (h : ¬ i < s.cfg.protectLimit) : (s.gate i a v).mem = s.mem.write i v := by
  unfold State.gate
  rw [if_neg h]
  split <;> rfl

theorem gate_mem_wf (hm : s.mem.wf = true) : (s.gate i a v).mem.wf = true := by
  by_cases h : i < s.cfg.protectLimit
  · rwa [gate_mem_of_protected h]
  · rw [gate_mem_of_writable h]; exact Memory.write_wf hm i v

/-- The gate does what `gateWrote` says. -/
theorem gate_gateWrote (hm : s.mem.wf = true) (h : indexOf s.cfg a = some i) : s.gateWrote (s.gate i a v) a v := by
  refine ⟨i, h, ?_, fun j hj => gate_read_ne hj, fun hp => ?_, fun hp => ?_⟩
  · unfold State.sameBesideMemory State.gate
    split <;> (try split) <;> rfl
  · simp [State.gate, hp, State.emit]
  · unfold State.gate
    rw [if_neg hp]
    split <;> simp_all [Memory.read_write_self]

theorem storeByte_of_index (h : indexOf s.cfg a = some i) : s.storeByte a v = .done (s.gate i a v) := by
  simp [State.storeByte, h]

theorem storeByte_of_no_index (h : indexOf s.cfg a = none) : s.storeByte a v = .outOfRange s a := by
  simp [State.storeByte, h]

theorem storeWord_of_index {w : Word} (h : indexOf s.cfg a = some i) (h' : indexOf s.cfg (a + 1) = some j) :
    s.storeWord a w = .done ((s.gate i a w.low).gate j (a + 1) w.high) := by
  rw [State.storeWord, storeByte_of_index h]
  exact storeByte_of_index (by simpa using h')

/-- A word write in range is two gated byte writes. -/
theorem storeWord_done {w : Word} (hm : s.mem.wf = true) (h : indexOf s.cfg a ≠ none)
    (h' : indexOf s.cfg (a + 1) ≠ none) : ∃ t, s.storeWord a w = .done t ∧ s.gateWroteWord t a w := by
  obtain ⟨i, hi⟩ := Option.ne_none_iff_exists'.mp h
  obtain ⟨j, hj⟩ := Option.ne_none_iff_exists'.mp h'
  exact ⟨_, storeWord_of_index hi hj, _, gate_gateWrote hm hi, gate_gateWrote (gate_mem_wf hm) (by simpa using hj)⟩

/-- A word write out of range stops at the first byte that is. -/
theorem storeWord_outOfRange {w : Word} (hm : s.mem.wf = true) (b : Option Byte)
    (h : indexOf s.cfg a = none ∨ indexOf s.cfg (a + 1) = none) :
    ∃ t c, s.storeWord a w = .outOfRange t c ∧ s.wordWriteFaulted (t.takeFault .outOfRange c b) a w b := by
  by_cases h1 : indexOf s.cfg a = none
  · exact ⟨s, a, by rw [State.storeWord, storeByte_of_no_index h1]; rfl, .inl ⟨h1, rfl⟩⟩
  · obtain ⟨i, hi⟩ := Option.ne_none_iff_exists'.mp h1
    have h2 : indexOf s.cfg (a + 1) = none := h.resolve_left h1
    refine ⟨s.gate i a w.low, a + 1, ?_, .inr ⟨h2, _, gate_gateWrote hm hi, rfl⟩⟩
    rw [State.storeWord, storeByte_of_index hi]
    exact storeByte_of_no_index (by simpa using h2)

/-! ### The stack -/

theorem sp_sub_two_add_one (x : Word) : x - 2 + 1 = x - 1 := by bv_omega

theorem sp_sub_two_add_two (x : Word) : x - 2 + 2 = x := by bv_omega

/-- A push in range: SP falls by 2 and the word is stored there (R95). -/
theorem push16_done {w : Word} (hm : s.mem.wf = true) (h : indexOf s.cfg (s.sp - 2) ≠ none)
    (h' : indexOf s.cfg (s.sp - 1) ≠ none) :
    ∃ u, s.push16 w = .done u ∧ State.gateWroteWord { s with sp := s.sp - 2 } u (s.sp - 2) w :=
  storeWord_done (s := { s with sp := s.sp - 2 }) hm h (by rw [sp_sub_two_add_one]; exact h')

/-- A push out of range: SP has fallen, and the write stops at the first byte that is out of range (R154). -/
theorem push16_outOfRange {w : Word} (hm : s.mem.wf = true) (b : Option Byte)
    (h : indexOf s.cfg (s.sp - 2) = none ∨ indexOf s.cfg (s.sp - 1) = none) :
    ∃ t c, s.push16 w = .outOfRange t c ∧
      State.wordWriteFaulted { s with sp := s.sp - 2 } (t.takeFault .outOfRange c b) (s.sp - 2) w b :=
  storeWord_outOfRange (s := { s with sp := s.sp - 2 }) hm b (by rw [sp_sub_two_add_one]; exact h)

theorem pop16_of_index (h : indexOf s.cfg s.sp = some i) (h' : indexOf s.cfg (s.sp + 1) = some j)
    (k : Word → State → Access) :
    s.pop16 k = k (Word.join (s.mem.read j) (s.mem.read i)) { s with sp := s.sp + 2 } :=
  loadWord_of_index h h' _

theorem pop16_of_no_index (h : indexOf s.cfg s.sp = none) (k : Word → State → Access) :
    s.pop16 k = .outOfRange s s.sp := loadWord_of_no_index h _

theorem pop16_of_no_second_index (h : indexOf s.cfg s.sp ≠ none) (h' : indexOf s.cfg (s.sp + 1) = none)
    (k : Word → State → Access) : s.pop16 k = .outOfRange s (s.sp + 1) := loadWord_of_no_second_index h h' _

/-- What CALL, RST and interrupt delivery share, in range: PC pushed, PC at the target. -/
theorem enter_done (target : Addr) (hm : s.mem.wf = true) (h : indexOf s.cfg (s.sp - 2) ≠ none)
    (h' : indexOf s.cfg (s.sp - 1) ≠ none) :
    ∃ u, s.enter target = .done { u with pc := target } ∧
      State.gateWroteWord { s with sp := s.sp - 2 } u (s.sp - 2) s.pc := by
  obtain ⟨u, h1, h2⟩ := push16_done (w := s.pc) hm h h'
  exact ⟨u, by rw [State.enter, h1]; rfl, h2⟩

/-- The same out of range: PC stays. -/
theorem enter_outOfRange (target : Addr) (hm : s.mem.wf = true) (b : Option Byte)
    (h : indexOf s.cfg (s.sp - 2) = none ∨ indexOf s.cfg (s.sp - 1) = none) :
    ∃ t c, s.enter target = .outOfRange t c ∧
      State.wordWriteFaulted { s with sp := s.sp - 2 } (t.takeFault .outOfRange c b) (s.sp - 2) s.pc b := by
  obtain ⟨t, c, h1, h2⟩ := push16_outOfRange (w := s.pc) hm b h
  exact ⟨t, c, by rw [State.enter, h1]; rfl, h2⟩

/-! ### Running an instruction -/

@[simp] theorem settle_done (b : Option Byte) : (Access.done s).settle b = s := rfl

@[simp] theorem settle_outOfRange (b : Option Byte) :
    (Access.outOfRange s a).settle b = s.takeFault .outOfRange a b := rfl

@[simp] theorem andThen_done (f : State → Access) : (Access.done s).andThen f = f s := rfl

@[simp] theorem andThen_outOfRange (f : State → Access) :
    (Access.outOfRange s a).andThen f = .outOfRange s a := rfl

end Sys2Proof.Machine
end

