-- ==== Sys2Proof/Laws/Evolves.lean ====
section
/-! SUPPORT. Once and for all, what an instruction, an interrupt or a tick can do to memory: a run of gated writes
(spec/20_memory.md R49). Every invariant about memory, `dirty` and the event log follows from this. -/

namespace Sys2Proof.Machine

/-! ### The state an access leaves -/

/-- The state at the end of an access, or at the access that is out of range. -/
def Access.after (r : Access) : State :=
  match r with
  | .done s => s
  | .outOfRange s _ => s

theorem loadByte_after {P : State → Prop} {s : State} {a : Addr} {k : Byte → Access} (hs : P s)
    (hk : ∀ v, P (k v).after) : P (s.loadByte a k).after := by
  unfold State.loadByte
  split
  · exact hk _
  · exact hs

theorem loadWord_after {P : State → Prop} {s : State} {a : Addr} {k : Word → Access} (hs : P s)
    (hk : ∀ v, P (k v).after) : P (s.loadWord a k).after :=
  loadByte_after hs fun _ => loadByte_after hs fun _ => hk _

theorem storeByte_after {P : State → Prop} {s : State} {a : Addr} {v : Byte} (hs : P s)
    (hg : ∀ i, indexOf s.cfg a = some i → P (s.gate i a v)) : P (s.storeByte a v).after := by
  unfold State.storeByte
  split
  · exact hg _ (by assumption)
  · exact hs

theorem andThen_after {P : State → Prop} {r : Access} {f : State → Access} (h : P r.after)
    (hf : ∀ u, P u → P (f u).after) : P (r.andThen f).after := by
  cases r with
  | done s => exact hf s h
  | outOfRange s a => exact h

theorem settle_eq (r : Access) (b : Option Byte) : ∃ f, r.settle b = { r.after with fault := f } := by
  cases r with
  | done s => exact ⟨s.fault, rfl⟩
  | outOfRange s a => exact ⟨_, rfl⟩

/-- The next state of a performed instruction: the one its access leaves, but for the fault record. -/
theorem perform_eq (i : Instr) (body : State → Access) (s : State) :
    ∃ f, perform i body s = .next { (body (s.advance i.length)).after with fault := f } := by
  obtain ⟨f, h⟩ := settle_eq (body (s.advance i.length)) (some i.opcode)
  exact ⟨f, by rw [perform, h]⟩

/-! ### Runs of gated writes -/

/-- `t` comes from `s` by gated writes and by changes that leave memory, `dirty`, the event log, the latches, the
configuration and the timeline alone. -/
inductive Evolves (s : State) : State → Prop where
  | refl : Evolves s s
  | gate {t : State} {i : Nat} {a : Addr} (v : Byte) : Evolves s t → indexOf t.cfg a = some i → Evolves s (t.gate i a v)
  | core {t u : State} : Evolves s t → u.mem = t.mem → u.dirty = t.dirty → u.events = t.events → u.latch = t.latch →
      u.cfg = t.cfg → u.timeline = t.timeline → Evolves s u

theorem Evolves.trans {s t u : State} (h : Evolves s t) (h' : Evolves t u) : Evolves s u := by
  induction h' with
  | refl => exact h
  | gate v _ hi ih => exact ih.gate v hi
  | core _ h1 h2 h3 h4 h5 h6 ih => exact ih.core h1 h2 h3 h4 h5 h6

theorem Evolves.storeByte {s t : State} (h : Evolves s t) (a : Addr) (v : Byte) :
    Evolves s (t.storeByte a v).after :=
  storeByte_after (P := Evolves s) h fun _ hi => h.gate v hi

theorem Evolves.storeWord {s t : State} (h : Evolves s t) (a : Addr) (v : Word) :
    Evolves s (t.storeWord a v).after :=
  andThen_after (P := Evolves s) (h.storeByte a v.low) fun _ hu => hu.storeByte (a + 1) v.high

theorem Evolves.loadByte {s t : State} (h : Evolves s t) {a : Addr} {k : Byte → Access}
    (hk : ∀ v, Evolves s (k v).after) : Evolves s (t.loadByte a k).after :=
  loadByte_after (P := Evolves s) h hk

theorem Evolves.loadWord {s t : State} (h : Evolves s t) {a : Addr} {k : Word → Access}
    (hk : ∀ v, Evolves s (k v).after) : Evolves s (t.loadWord a k).after :=
  loadWord_after (P := Evolves s) h hk

theorem Evolves.writeSlot {s t : State} (h : Evolves s t) (x : Slot) (v : Byte) :
    Evolves s (t.writeSlot x v).after := by
  cases x with
  | reg r => exact h.core rfl rfl rfl rfl rfl rfl
  | mem => exact h.storeByte _ _

theorem Evolves.readSlot {s t : State} (h : Evolves s t) (x : Slot) {k : Byte → Access}
    (hk : ∀ v, Evolves s (k v).after) : Evolves s (t.readSlot x k).after := by
  cases x with
  | reg r => exact hk _
  | mem => exact h.loadByte hk

theorem Evolves.setPair {s t : State} (h : Evolves s t) (rr : RegPair) (v : Word) : Evolves s (t.setPair rr v) :=
  h.core (by simp) (by simp) (by simp) (by simp) (by simp) (by simp)

theorem Evolves.setStackPair {s t : State} (h : Evolves s t) (rr : StackPair) (v : Word) :
    Evolves s (t.setStackPair rr v) :=
  h.core (by simp) (by simp) (by simp) (by simp) (by simp) (by simp)

theorem Evolves.push16 {s t : State} (h : Evolves s t) (v : Word) : Evolves s (t.push16 v).after := by
  unfold State.push16
  have h' : Evolves s { t with sp := t.sp - 2 } := h.core rfl rfl rfl rfl rfl rfl
  exact h'.storeWord _ _

theorem Evolves.pop16 {s t : State} (h : Evolves s t) {k : Word → State → Access}
    (hk : ∀ v u, Evolves s u → Evolves s (k v u).after) : Evolves s (t.pop16 k).after := by
  unfold State.pop16
  exact h.loadWord fun v => hk v _ (h.core rfl rfl rfl rfl rfl rfl)

theorem Evolves.enter {s t : State} (h : Evolves s t) (target : Addr) : Evolves s (t.enter target).after :=
  andThen_after (P := Evolves s) (h.push16 _) fun _ hu => hu.core rfl rfl rfl rfl rfl rfl

theorem Evolves.leave {s t : State} (h : Evolves s t) : Evolves s t.leave.after :=
  h.pop16 fun _ _ hu => hu.core rfl rfl rfl rfl rfl rfl

theorem Evolves.portOut {s t : State} (h : Evolves s t) (p v : Byte) : Evolves s (t.portOut p v) :=
  h.core (by simp) (by simp) (by simp) (by simp) (by simp) (by simp)

theorem Evolves.writeSlotSzp {s t : State} (h : Evolves s t) (x : Slot) (v : Byte) :
    Evolves s (writeSlotSzp x v t).after :=
  andThen_after (P := Evolves s) (h.writeSlot x v) fun _ hu => hu.core rfl rfl rfl rfl rfl rfl

/-- A body that evolves the state it is given makes an instruction that evolves the state. -/
theorem perform_evolves {i : Instr} {body : State → Access} {s t : State} (h : perform i body s = .next t)
    (hb : ∀ u, Evolves u (body u).after) : Evolves s t := by
  obtain ⟨f, hf⟩ := perform_eq i body s
  rw [hf] at h
  cases h
  have h0 : Evolves s (s.advance i.length) := Evolves.refl.core rfl rfl rfl rfl rfl rfl
  exact (h0.trans (hb _)).core rfl rfl rfl rfl rfl rfl

theorem performUnimplemented_evolves {i : Instr} {s t : State} (h : performUnimplemented i s = .next t) :
    Evolves s t := by
  cases h
  exact Evolves.refl.core rfl rfl rfl rfl rfl rfl

/-- Every instruction evolves the state. -/
theorem exec_evolves {i : Instr} {s t : State} (h : exec i s = .next t) : Evolves s t := by
  have core : ∀ {u : State} {w : State}, w.mem = u.mem → w.dirty = u.dirty → w.events = u.events →
      w.latch = u.latch → w.cfg = u.cfg → w.timeline = u.timeline → Evolves u w :=
    fun h1 h2 h3 h4 h5 h6 => Evolves.refl.core h1 h2 h3 h4 h5 h6
  induction i using instr_by_family with
  | nop => exact perform_evolves h fun u => .refl
  | mov d r hne =>
    rw [exec_mov _ _ _ hne] at h
    exact perform_evolves h fun u => Evolves.refl.readSlot r fun v => Evolves.refl.writeSlot d v
  | mvi d v => rw [exec_mvi] at h; exact perform_evolves h fun u => Evolves.refl.writeSlot d v
  | lxi rr v => rw [exec_lxi] at h; exact perform_evolves h fun u => Evolves.refl.setPair rr v
  | ldax r =>
    rw [exec_ldax] at h
    exact perform_evolves h fun u => Evolves.refl.loadByte fun v => core rfl rfl rfl rfl rfl rfl
  | stax r => rw [exec_stax] at h; exact perform_evolves h fun u => Evolves.refl.storeByte _ _
  | lda a =>
    exact perform_evolves (body := loadA a) h fun u => Evolves.refl.loadByte fun v => core rfl rfl rfl rfl rfl rfl
  | sta a => exact perform_evolves (body := storeA a) h fun u => Evolves.refl.storeByte _ _
  | lhld a => exact perform_evolves (body := loadHl a) h fun u => Evolves.refl.loadWord fun v =>
      show Evolves u (u.setPair .hl v) from Evolves.refl.setPair _ _
  | shld a => exact perform_evolves (body := storeHl a) h fun u => Evolves.refl.storeWord _ _
  | push rr => rw [exec_push] at h; exact perform_evolves h fun u => Evolves.refl.push16 _
  | pop rr =>
    rw [exec_pop] at h
    exact perform_evolves h fun u => Evolves.refl.pop16 fun v w hw =>
      show Evolves u (w.setStackPair rr v) from hw.setStackPair rr v
  | xchg => exact perform_evolves (body := exchangeDeHl) h fun u => core rfl rfl rfl rfl rfl rfl
  | xthl =>
    exact perform_evolves (body := exchangeTopHl) h fun u => Evolves.refl.loadWord fun v =>
      andThen_after (P := Evolves u) (Evolves.refl.storeWord _ _) fun w hw =>
        show Evolves u (w.setPair .hl v) from hw.setPair _ _
  | sphl => exact perform_evolves (body := copyHlToSp) h fun u => core rfl rfl rfl rfl rfl rfl
  | inx rr => rw [exec_inx] at h; exact perform_evolves h fun u => Evolves.refl.setPair _ _
  | dcx rr => rw [exec_dcx] at h; exact perform_evolves h fun u => Evolves.refl.setPair _ _
  | dad rr => rw [exec_dad] at h; exact perform_evolves h fun u => core rfl rfl rfl rfl rfl rfl
  | alu op x =>
    rw [exec_alu] at h
    exact perform_evolves h fun u => Evolves.refl.readSlot x fun v => core rfl rfl rfl rfl rfl rfl
  | aluImm op v => rw [exec_aluImm] at h; exact perform_evolves h fun u => core rfl rfl rfl rfl rfl rfl
  | rlc => exact perform_evolves (body := rotateA .rlc) h fun u => core rfl rfl rfl rfl rfl rfl
  | rrc => exact perform_evolves (body := rotateA .rrc) h fun u => core rfl rfl rfl rfl rfl rfl
  | ral => exact perform_evolves (body := rotateA .ral) h fun u => core rfl rfl rfl rfl rfl rfl
  | rar => exact perform_evolves (body := rotateA .rar) h fun u => core rfl rfl rfl rfl rfl rfl
  | cma => exact perform_evolves (body := complementA) h fun u => core rfl rfl rfl rfl rfl rfl
  | cmc => exact perform_evolves (body := complementCarry) h fun u => core rfl rfl rfl rfl rfl rfl
  | stc => exact perform_evolves (body := setCarry) h fun u => core rfl rfl rfl rfl rfl rfl
  | inr x =>
    rw [exec_inr] at h
    exact perform_evolves h fun u => Evolves.refl.readSlot x fun v => Evolves.refl.writeSlotSzp _ _
  | dcr x =>
    rw [exec_dcr] at h
    exact perform_evolves h fun u => Evolves.refl.readSlot x fun v => Evolves.refl.writeSlotSzp _ _
  | rcc cc =>
    rw [exec_rcc] at h
    exact perform_evolves h fun u => by
      unfold returnIf
      split
      · exact Evolves.refl.leave
      · exact .refl
  | ret => exact perform_evolves (body := State.leave) h fun u => Evolves.refl.leave
  | jcc cc a =>
    rw [exec_jcc] at h
    exact perform_evolves h fun u => by
      unfold jumpIf
      split
      · exact core rfl rfl rfl rfl rfl rfl
      · exact .refl
  | jmp a => exact perform_evolves (body := jumpTo a) h fun u => core rfl rfl rfl rfl rfl rfl
  | ccc cc a =>
    rw [exec_ccc] at h
    exact perform_evolves h fun u => by
      unfold callIf
      split
      · exact Evolves.refl.enter _
      · exact .refl
  | call a => exact perform_evolves (body := callTo a) h fun u => Evolves.refl.enter _
  | rst n hn => rw [exec_rst _ _ hn] at h; exact perform_evolves h fun u => Evolves.refl.enter _
  | pchl =>
    change (if s.cfg.enablePchl then perform .pchl jumpToHl s else performUnimplemented .pchl s) = .next t at h
    split at h
    · exact perform_evolves h fun u => core rfl rfl rfl rfl rfl rfl
    · exact performUnimplemented_evolves h
  | ei => exact perform_evolves (body := enableInterrupts) h fun u => core rfl rfl rfl rfl rfl rfl
  | di => exact perform_evolves (body := disableInterrupts) h fun u => core rfl rfl rfl rfl rfl rfl
  | inp p => exact perform_evolves (body := inputPort p) h fun u => core rfl rfl rfl rfl rfl rfl
  | out p => exact perform_evolves (body := outputPort p) h fun u => Evolves.refl.portOut _ _
  | hlt => exact perform_evolves (body := haltRun) h fun u => core rfl rfl rfl rfl rfl rfl
  | unimplemented i _ _ he => rw [he] at h; exact performUnimplemented_evolves h

/-- The state `raise` leaves, whatever it answers. -/
def Delivery.after (d : Delivery) : State :=
  match d with
  | .lost s => s
  | .delivered s => s
  | .faulted s => s

theorem raise_evolves (s : State) (v : Nat) : Evolves s (s.raise v).after := by
  unfold State.raise
  split
  · exact Evolves.refl.core rfl rfl rfl rfl rfl rfl
  · split
    · have h : Evolves s (s.enter (entryPoint v)).after := Evolves.refl.enter _
      cases hr : s.enter (entryPoint v) with
      | done t => rw [hr] at h; exact h.core rfl rfl rfl rfl rfl rfl
      | outOfRange t a => rw [hr] at h; exact h.core rfl rfl rfl rfl rfl rfl
    · exact .refl

theorem hostRaise_evolves (s : State) (v : Nat) : Evolves s (s.hostRaise v) := by
  have h := raise_evolves s v
  unfold State.hostRaise
  cases hr : s.raise v <;> rw [hr] at h <;> exact h

theorem tick_evolves (s : State) : Evolves s s.tick := by
  have h := raise_evolves s s.tickVector.toNat
  unfold State.tick
  cases hr : s.raise s.tickVector.toNat with
  | lost t =>
    rw [hr] at h
    dsimp only
    split
    · exact Evolves.core h rfl rfl rfl rfl rfl rfl
    · exact h
  | delivered t => rw [hr] at h; exact Evolves.core h rfl rfl rfl rfl rfl rfl
  | faulted t => rw [hr] at h; exact h

/-! ### What such a run keeps -/

theorem Evolves.cfg {s t : State} (h : Evolves s t) : t.cfg = s.cfg := by
  induction h with
  | refl => rfl
  | gate v _ _ ih => simpa using ih
  | core _ _ _ _ _ h5 _ ih => rw [h5, ih]

theorem Evolves.latch {s t : State} (h : Evolves s t) : t.latch = s.latch := by
  induction h with
  | refl => rfl
  | gate v _ _ ih => simpa using ih
  | core _ _ _ _ h4 _ _ ih => rw [h4, ih]

theorem Evolves.timeline {s t : State} (h : Evolves s t) : t.timeline = s.timeline := by
  induction h with
  | refl => rfl
  | gate v _ _ ih => simpa using ih
  | core _ _ _ _ _ _ h6 ih => rw [h6, ih]

theorem Evolves.mem_wf {s t : State} (h : Evolves s t) (hm : s.mem.wf = true) : t.mem.wf = true := by
  induction h with
  | refl => exact hm
  | gate v _ _ ih => exact gate_mem_wf ih
  | core _ h1 _ _ _ _ _ ih => rw [h1]; exact ih

theorem Evolves.mem_below {s t : State} (h : Evolves s t) (hc : s.cfg.wf = true)
    (hm : s.mem.below s.cfg.memSize = true) : t.mem.below s.cfg.memSize = true := by
  induction h with
  | refl => exact hm
  | @gate u i a v hu hi ih =>
    by_cases hp : i < u.cfg.protectLimit
    · rwa [gate_mem_of_protected hp]
    · rw [gate_mem_of_writable hp]
      rw [hu.cfg] at hi
      exact Memory.write_below v (indexOf_lt hc hi) ih
  | core _ h1 _ _ _ _ _ ih => rw [h1]; exact ih

/-- The event log only grows (R36). -/
theorem Evolves.events_prefix {s t : State} (h : Evolves s t) : s.events <+: t.events := by
  induction h with
  | refl => exact List.prefix_refl _
  | gate v _ _ ih =>
    refine ih.trans ?_
    unfold State.gate
    split
    · exact List.prefix_append _ _
    · split <;> exact List.prefix_refl _
  | core _ _ _ h _ _ _ ih => rw [h]; exact ih

/-- A byte below `PROTECT_LIMIT` keeps its value (R46). -/
theorem Evolves.read_protected {s t : State} (h : Evolves s t) {j : Nat} (hj : j < s.cfg.protectLimit) :
    t.mem.read j = s.mem.read j := by
  induction h with
  | refl => rfl
  | @gate u i a v hu hi ih =>
    by_cases hp : i < u.cfg.protectLimit
    · rw [gate_mem_of_protected hp, ih]
    · rw [gate_read_ne, ih]
      rw [hu.cfg] at hp
      omega
  | core _ h1 _ _ _ _ _ ih => rw [h1, ih]

end Sys2Proof.Machine
end

