-- ==== Sys2Proof/Laws/Flags.lean ====
section
/-! SUPPORT. Byte order, the flags byte, and the ALU in natural numbers. -/

namespace Sys2Proof

/-- The number of a joined word (R11). -/
theorem Word.toNat_join (h l : Byte) : (Word.join h l).toNat = 256 * h.toNat + l.toNat := by
  have hl := l.isLt
  show (BitVec.append h l).toNat = _
  rw [show BitVec.append h l = h ++ l from rfl, BitVec.toNat_append, ← Nat.shiftLeft_add_eq_or_of_lt hl,
    Nat.shiftLeft_eq]
  omega

theorem Word.toNat_low (v : Word) : (Word.low v).toNat = v.toNat % 256 := by
  simp [Word.low, BitVec.extractLsb'_toNat]

theorem Word.toNat_high (v : Word) : (Word.high v).toNat = v.toNat / 256 := by
  have := v.isLt
  simp only [Word.high, BitVec.extractLsb'_toNat, Nat.shiftRight_eq_div_pow]
  omega

@[simp] theorem Word.low_join (h l : Byte) : Word.low (Word.join h l) = l := by
  have := h.isLt; have := l.isLt
  rw [← BitVec.toNat_inj, Word.toNat_low, Word.toNat_join]; omega

@[simp] theorem Word.high_join (h l : Byte) : Word.high (Word.join h l) = h := by
  have := h.isLt; have := l.isLt
  rw [← BitVec.toNat_inj, Word.toNat_high, Word.toNat_join]; omega

@[simp] theorem Word.join_high_low (v : Word) : Word.join (Word.high v) (Word.low v) = v := by
  rw [← BitVec.toNat_inj, Word.toNat_join, Word.toNat_high, Word.toNat_low]; omega

end Sys2Proof

namespace Sys2Proof.Machine

@[simp] theorem Flags.szp_ac (f : Flags) (r : Byte) : (f.szp r).ac = f.ac := rfl

@[simp] theorem Flags.szp_cy (f : Flags) (r : Byte) : (f.szp r).cy = f.cy := rfl

/-- Unpacking a packed flags byte gives the flags back (R29, R30). -/
@[simp] theorem Flags.ofByte_byte (f : Flags) : Flags.ofByte f.byte = f := by
  obtain ⟨s, z, ac, p, cy⟩ := f
  cases s <;> cases z <;> cases ac <;> cases p <;> cases cy <;> rfl

/-- `szp` of a byte is `flagsOf` of its number (R16). -/
theorem Flags.szp_eq_flagsOf (f : Flags) (r : Byte) : f.szp r = flagsOf r.toNat f.cy f.ac := by
  simp only [Flags.szp, flagsOf, popcount, Flags.mk.injEq, and_true, true_and]
  refine ⟨?_, ?_, ?_⟩
  · rw [Bool.eq_iff_iff, decide_eq_true_eq]; simp [BitVec.getLsbD, Nat.testBit_eq_decide_div_mod_eq]; omega
  · rw [Bool.eq_iff_iff, decide_eq_true_eq, decide_eq_true_eq, ← BitVec.toNat_inj]; rfl
  · rfl

/-- The result of an ALU operation in natural numbers (R109). -/
theorem aluResult_toNat (op : AluOp) (a v : Byte) (cy : Bool) :
    (aluResult op a v cy).toNat = (aluNat op a.toNat v.toNat cy.toNat).1 := by
  have ha := a.isLt
  have hv := v.isLt
  have hc : (carryIn cy).toNat = cy.toNat := by cases cy <;> rfl
  have hc1 : cy.toNat ≤ 1 := by cases cy <;> decide
  have hand : a.toNat &&& v.toNat < 256 := by rw [← BitVec.toNat_and]; exact (a &&& v).isLt
  have hxor : a.toNat ^^^ v.toNat < 256 := by rw [← BitVec.toNat_xor]; exact (a ^^^ v).isLt
  have hor : a.toNat ||| v.toNat < 256 := by rw [← BitVec.toNat_or]; exact (a ||| v).isLt
  cases op <;>
    simp only [aluResult, aluWide, aluNat, BitVec.toNat_setWidth, BitVec.toNat_add, BitVec.toNat_sub, BitVec.toNat_and,
      BitVec.toNat_or, BitVec.toNat_xor, hc] <;>
    omega

/-- The carry of an ALU operation in natural numbers (R109). -/
theorem aluCarry_eq (sense : SubCySense) (op : AluOp) (a v : Byte) (cy : Bool) :
    aluCarry sense op a v cy = carryOf sense op (aluNat op a.toNat v.toNat cy.toNat).2 := by
  have ha := a.isLt
  have hv := v.isLt
  have hc : (carryIn cy).toNat = cy.toNat := by cases cy <;> rfl
  have hc1 : cy.toNat ≤ 1 := by cases cy <;> decide
  cases op <;> cases sense <;>
    simp only [aluCarry, aluWide, aluNat, carryOf, subCarry, BitVec.getLsbD, Nat.testBit_eq_decide_div_mod_eq,
      BitVec.toNat_setWidth, BitVec.toNat_add, BitVec.toNat_sub, hc] <;>
    (rw [Bool.eq_iff_iff]; simp; omega)

end Sys2Proof.Machine
end

