-- ==== Sys2Proof/Laws/Keeps.lean ====
section
/-! SUPPORT. Once and for all, what an instruction keeps beside memory: a property of the state that the core's writes
keep is kept by every instruction, but for the few that write the flags, IME, `halted` or the shifter. -/

namespace Sys2Proof.Machine

/-- What every instruction may write: memory through the gate, the registers, SP, PC and the fault record. -/
structure CoreKeeps (P : State → Prop) : Prop where
  gate  : ∀ s i a v, P s → P (s.gate i a v)
  regs  : ∀ s x, P s → P { s with regs := x }
  sp    : ∀ s x, P s → P { s with sp := x }
  pc    : ∀ s x, P s → P { s with pc := x }
  fault : ∀ s x, P s → P { s with fault := x }

section
variable {P : State → Prop} {s : State} (c : CoreKeeps P)
include c

theorem storeByte_keeps (hs : P s) (a : Addr) (v : Byte) : P (s.storeByte a v).after :=
  storeByte_after hs fun i _ => c.gate s i a v hs

theorem storeWord_keeps (hs : P s) (a : Addr) (v : Word) : P (s.storeWord a v).after :=
  andThen_after (P := P) (storeByte_keeps c hs _ _) fun _ hu => storeByte_keeps c hu _ _

theorem writeSlot_keeps (hs : P s) (x : Slot) (v : Byte) : P (s.writeSlot x v).after := by
  cases x with
  | reg r => exact c.regs _ _ hs
  | mem => exact storeByte_keeps c hs _ _

theorem setPair_keeps (s : State) (rr : RegPair) (v : Word) (hs : P s) : P (s.setPair rr v) := by
  cases rr <;> first | exact c.regs _ _ hs | exact c.sp _ _ hs

theorem push16_keeps (hs : P s) (v : Word) : P (s.push16 v).after := storeWord_keeps c (c.sp _ _ hs) _ _

theorem enter_keeps (hs : P s) (a : Addr) : P (s.enter a).after :=
  andThen_after (P := P) (push16_keeps c hs _) fun _ hu => c.pc _ _ hu

theorem leave_keeps (hs : P s) : P s.leave.after := by
  unfold State.leave State.pop16
  exact loadWord_after hs fun _ => c.pc _ _ (c.sp _ _ hs)

theorem perform_keeps {i : Instr} {body : State → Access} {t : State} (h : perform i body s = .next t)
    (hb : P (body (s.advance i.length)).after) : P t := by
  obtain ⟨f, e⟩ := perform_eq i body s
  rw [e] at h
  cases h
  exact c.fault _ _ hb

end

theorem readSlot_after {P : State → Prop} {s : State} (hs : P s) (x : Slot) {k : Byte → Access}
    (hk : ∀ v, P (k v).after) : P (s.readSlot x k).after := by
  cases x with
  | reg r => exact hk _
  | mem => exact loadByte_after hs hk

/-- A property that the core's writes keep is kept by every instruction, given that it is kept by what else that
instruction may write: the flags, IME, `halted` or the shifter. -/
theorem exec_keeps (P : State → Prop) (c : CoreKeeps P) {i : Instr} {s t : State} (hs : P s) (h : exec i s = .next t)
    (hfl : ∀ f, ((∃ op x, i = .alu op x) ∨ (∃ op v, i = .aluImm op v) ∨ (∃ x, i = .inr x) ∨ (∃ x, i = .dcr x) ∨
      (∃ rr, i = .dad rr) ∨ i = .rlc ∨ i = .rrc ∨ i = .ral ∨ i = .rar ∨ i = .stc ∨ i = .cmc ∨ i = .popPsw) →
      ∀ u, P u → P { u with flags := f })
    (hei : i = .ei ∨ i = .di → ∀ f u, P u → P { u with ime := f })
    (hh : i = .hlt → ∀ f u, P u → P { u with halted := f })
    (hsh : (∃ p, i = .out p) → ∀ f u, P u → P { u with shifter := f }) : P t := by
  have hadv : ∀ n, P (s.advance n) := fun n => c.pc _ _ hs
  induction i using instr_by_family with
  | nop => exact perform_keeps c (body := noOperation) h (hadv _)
  | mov d r hne =>
    rw [exec_mov _ _ _ hne] at h
    exact perform_keeps c h (readSlot_after (hadv _) r fun v => writeSlot_keeps c (hadv _) _ _)
  | mvi d v => rw [exec_mvi] at h; exact perform_keeps c h (writeSlot_keeps c (hadv _) _ _)
  | lxi rr v => rw [exec_lxi] at h; exact perform_keeps c h (setPair_keeps c _ _ _ (hadv _))
  | ldax r => rw [exec_ldax] at h; exact perform_keeps c h (loadByte_after (hadv _) fun v => c.regs _ _ (hadv _))
  | stax r => rw [exec_stax] at h; exact perform_keeps c h (storeByte_keeps c (hadv _) _ _)
  | lda a => exact perform_keeps c (body := loadA a) h (loadByte_after (hadv _) fun v => c.regs _ _ (hadv _))
  | sta a => exact perform_keeps c (body := storeA a) h (storeByte_keeps c (hadv _) _ _)
  | lhld a => exact perform_keeps c (body := loadHl a) h (loadWord_after (hadv _) fun v => setPair_keeps c _ .hl _ (hadv _))
  | shld a => exact perform_keeps c (body := storeHl a) h (storeWord_keeps c (hadv _) _ _)
  | push rr => rw [exec_push] at h; exact perform_keeps c h (push16_keeps c (hadv _) _)
  | pop rr =>
    rw [exec_pop] at h
    refine perform_keeps c h ?_
    unfold popPair State.pop16
    refine loadWord_after (hadv _) fun v => ?_
    cases rr with
    | psw => exact hfl _ (by simp [Instr.pop]) _ (c.regs _ _ (c.sp _ _ (hadv _)))
    | _ => exact c.regs _ _ (c.sp _ _ (hadv _))
  | xchg => exact perform_keeps c (body := exchangeDeHl) h (c.regs _ _ (hadv _))
  | xthl =>
    exact perform_keeps c (body := exchangeTopHl) h (loadWord_after (hadv _) fun v =>
      andThen_after (P := P) (storeWord_keeps c (hadv _) _ _) fun w hw => setPair_keeps c _ .hl _ hw)
  | sphl => exact perform_keeps c (body := copyHlToSp) h (c.sp _ _ (hadv _))
  | inx rr => rw [exec_inx] at h; exact perform_keeps c h (setPair_keeps c _ _ _ (hadv _))
  | dcx rr => rw [exec_dcx] at h; exact perform_keeps c h (setPair_keeps c _ _ _ (hadv _))
  | dad rr => rw [exec_dad] at h; exact perform_keeps c h (hfl _ (by simp) _ (c.regs _ _ (hadv _)))
  | alu op x =>
    rw [exec_alu] at h
    exact perform_keeps c h (readSlot_after (hadv _) _ fun v => hfl _ (.inl ⟨op, x, rfl⟩) _ (c.regs _ _ (hadv _)))
  | aluImm op v => rw [exec_aluImm] at h; exact perform_keeps c h (hfl _ (.inr (.inl ⟨op, v, rfl⟩)) _ (c.regs _ _ (hadv _)))
  | rlc => exact perform_keeps c (body := rotateA .rlc) h (hfl _ (by simp) _ (c.regs _ _ (hadv _)))
  | rrc => exact perform_keeps c (body := rotateA .rrc) h (hfl _ (by simp) _ (c.regs _ _ (hadv _)))
  | ral => exact perform_keeps c (body := rotateA .ral) h (hfl _ (by simp) _ (c.regs _ _ (hadv _)))
  | rar => exact perform_keeps c (body := rotateA .rar) h (hfl _ (by simp) _ (c.regs _ _ (hadv _)))
  | cma => exact perform_keeps c (body := complementA) h (c.regs _ _ (hadv _))
  | cmc => exact perform_keeps c (body := complementCarry) h (hfl _ (by simp) _ (hadv _))
  | stc => exact perform_keeps c (body := setCarry) h (hfl _ (by simp) _ (hadv _))
  | inr x =>
    rw [exec_inr] at h
    exact perform_keeps c h (readSlot_after (hadv _) _ fun v => andThen_after (P := P) (writeSlot_keeps c (hadv _) _ _)
      fun w hw => hfl _ (.inr (.inr (.inl ⟨x, rfl⟩))) _ hw)
  | dcr x =>
    rw [exec_dcr] at h
    exact perform_keeps c h (readSlot_after (hadv _) _ fun v => andThen_after (P := P) (writeSlot_keeps c (hadv _) _ _)
      fun w hw => hfl _ (.inr (.inr (.inr (.inl ⟨x, rfl⟩)))) _ hw)
  | rcc cc =>
    rw [exec_rcc] at h
    refine perform_keeps c h ?_
    unfold returnIf
    split
    · exact leave_keeps c (hadv _)
    · exact hadv _
  | ret => exact perform_keeps c (body := State.leave) h (leave_keeps c (hadv _))
  | jcc cc a =>
    rw [exec_jcc] at h
    refine perform_keeps c h ?_
    unfold jumpIf
    split
    · exact c.pc _ _ (hadv _)
    · exact hadv _
  | jmp a => exact perform_keeps c (body := jumpTo a) h (c.pc _ _ (hadv _))
  | ccc cc a =>
    rw [exec_ccc] at h
    refine perform_keeps c h ?_
    unfold callIf
    split
    · exact enter_keeps c (hadv _) _
    · exact hadv _
  | call a => exact perform_keeps c (body := callTo a) h (enter_keeps c (hadv _) _)
  | rst n hn => rw [exec_rst _ _ hn] at h; exact perform_keeps c h (enter_keeps c (hadv _) _)
  | pchl =>
    change (if s.cfg.enablePchl then perform .pchl jumpToHl s else performUnimplemented .pchl s) = .next t at h
    split at h
    · exact perform_keeps c h (c.pc _ _ (hadv _))
    · cases h; exact c.fault _ _ (hadv 1)
  | ei => exact perform_keeps c (body := enableInterrupts) h (hei (.inl rfl) _ _ (hadv _))
  | di => exact perform_keeps c (body := disableInterrupts) h (hei (.inr rfl) _ _ (hadv _))
  | inp p => exact perform_keeps c (body := inputPort p) h (c.regs _ _ (hadv _))
  | out p =>
    refine perform_keeps c (body := outputPort p) h ?_
    show P (State.portOut _ _ _)
    unfold State.portOut
    split
    · exact hsh ⟨p, rfl⟩ _ _ (hadv _)
    · split
      · exact hsh ⟨p, rfl⟩ _ _ (hadv _)
      · exact hadv _
  | hlt => exact perform_keeps c (body := haltRun) h (hh rfl _ _ (hadv _))
  | unimplemented i _ _ he => rw [he] at h; cases h; exact c.fault _ _ (hadv 1)

end Sys2Proof.Machine
end

