-- ==== Sys2Proof/Laws/Step.lean ====
section
/-! SUPPORT. What a step can do, said once: fetching an instruction that stands at PC, and the cases of a step. -/

namespace Sys2Proof.Machine

theorem peek_of_holds {s : State} {i : Instr} {n k : Nat} (h : s.holdsPrefix i n) (hk : k < n) :
    s.peek (s.pc + BitVec.ofNat 16 k) = (encode i)[k]? := h k hk

theorem fetchByte_of_peek {s : State} {op : Option Byte} {v : Byte} (h : s.peek s.pc = some v)
    (k : Byte → State → Fetched) : s.fetchByte op k = k v (s.advance 1) := by
  simp [State.fetchByte, h]

theorem fetchByte_of_no_peek {s : State} {op : Option Byte} (h : s.peek s.pc = none) (k : Byte → State → Fetched) :
    s.fetchByte op k = .trapped (s.takeFault .outOfRange s.pc op) := by
  simp [State.fetchByte, h]

/-- A read depends on memory and the configuration alone. -/
@[simp] theorem peek_advance (s : State) (n : Nat) (a : Addr) : (s.advance n).peek a = s.peek a := rfl

theorem pc_add_one_add_one (x : Addr) : x + BitVec.ofNat 16 1 + BitVec.ofNat 16 1 = x + BitVec.ofNat 16 2 := by
  bv_omega

/-- An instruction whose bytes stand at PC is the one fetched (R14, R150). -/
theorem fetch_of_holdsInstr {s : State} {i : Instr} (h : s.holdsInstr i) : s.fetch = .ready i := by
  have at0 (op : Byte) (rest : List Byte) (e : encode i = op :: rest) : s.peek s.pc = some op := by
    have := h 0 (by simp [Instr.length, e])
    simpa [e] using this
  have at1 (op v : Byte) (rest : List Byte) (e : encode i = op :: v :: rest) : s.peek (s.advance 1).pc = some v := by
    have := h 1 (by simp [Instr.length, e])
    simpa [e] using this
  have at2 (op v w : Byte) (e : encode i = [op, v, w]) : s.peek ((s.advance 1).advance 1).pc = some w := by
    have := h 2 (by simp [Instr.length, e])
    rw [State.advance_pc, State.advance_pc, pc_add_one_add_one]
    simpa [e] using this
  rcases head_of_encoding i with ⟨op, e, hd⟩ | ⟨op, v, k, e, hd, rfl⟩ | ⟨op, w, k, e, hd, rfl⟩
  · simp only [State.fetch, fetchByte_of_peek (at0 _ _ e), hd]
  · simp only [State.fetch, fetchByte_of_peek (at0 _ _ e), hd]
    rw [fetchByte_of_peek (v := v) (by simpa using at1 _ _ _ e)]
  · simp only [State.fetch, fetchByte_of_peek (at0 _ _ e), hd]
    rw [fetchByte_of_peek (v := w.low) (by simpa using at1 _ _ _ e)]
    rw [fetchByte_of_peek (v := w.high) (by simpa using at2 _ _ _ e), Word.join_high_low]

/-- A fetch out of range changes PC and the fault record alone, and the record is an OutOfRange one. -/
theorem fetch_trapped {s t : State} (h : s.fetch = .trapped t) :
    ∃ p a b, indexOf s.cfg a = none ∧ t = { s with
      pc := p, fault := some { kind := .outOfRange, addr := a, byte := b } } := by
  have key (u : State) (p : Addr) (hu : u = { s with pc := p }) (op : Option Byte) (k : Byte → State → Fetched)
      (hk : ∀ v, k v (u.advance 1) = .trapped t → ∃ p a b, indexOf s.cfg a = none ∧ t = { s with
        pc := p, fault := some { kind := .outOfRange, addr := a, byte := b } })
      (hf : u.fetchByte op k = .trapped t) : ∃ p a b, indexOf s.cfg a = none ∧ t = { s with
        pc := p, fault := some { kind := .outOfRange, addr := a, byte := b } } := by
    unfold State.fetchByte at hf
    split at hf
    · exact hk _ hf
    · rename_i hp
      cases hf
      subst hu
      exact ⟨p, p, op, by simpa [State.peek] using hp, rfl⟩
  refine key s s.pc rfl none _ (fun op hop => ?_) h
  split at hop
  · cases hop
  · refine key _ _ rfl (some op) _ (fun v hv => ?_) hop
    cases hv
  · refine key _ _ rfl (some op) _ (fun lo hlo => ?_) hop
    refine key _ _ rfl (some op) _ (fun hi hhi => ?_) hlo
    cases hhi

/-- The cases of a step that answers a next state (R150, R163). -/
theorem step_cases {s t : State} (h : step s = .next t) :
    s.ended = false ∧
      ((∃ u, s.fetch = .trapped u ∧ t = u.hostTurn) ∨
        (∃ i u, s.fetch = .ready i ∧ exec i s = .next u ∧ t = u.hostTurn)) := by
  unfold step blockStep at h
  cases he : s.ended with
  | true => simp [he] at h
  | false =>
    refine ⟨rfl, ?_⟩
    simp only [he, Bool.false_eq_true, if_false] at h
    cases hf : s.fetch with
    | trapped u => rw [hf] at h; cases h; exact .inl ⟨u, rfl, rfl⟩
    | ready i =>
      rw [hf] at h
      dsimp only at h
      cases hx : exec i s with
      | next u => rw [hx] at h; cases h; exact .inr ⟨i, u, rfl, hx, rfl⟩
      | fault r => rw [hx] at h; cases h
      | refused r => rw [hx] at h; cases h

/-- Before the host's turn, a step evolves the state. -/
theorem step_evolves {s t : State} (h : step s = .next t) : ∃ u, Evolves s u ∧ t = u.hostTurn := by
  rcases (step_cases h).2 with ⟨u, hu, rfl⟩ | ⟨i, u, _, hu, rfl⟩
  · obtain ⟨p, a, b, _, hp⟩ := fetch_trapped hu
    refine ⟨u, ?_, rfl⟩
    subst hp
    exact Evolves.refl.core rfl rfl rfl rfl rfl rfl
  · exact ⟨u, exec_evolves hu, rfl⟩

@[simp] theorem drain_nil (s : State) : s.drain [] = s := rfl

theorem drain_cons (s : State) (e : HostEvent) (rest : List HostEvent) :
    s.drain (e :: rest) = if (s.handle e).fault.isSome then s.handle e else (s.handle e).drain rest := rfl

@[simp] theorem handle_tick (s : State) : s.handle .tick = s.tick := rfl

@[simp] theorem handle_raise (s : State) (v : Nat) : s.handle (.raise v) = s.hostRaise v := rfl

@[simp] theorem handle_latch (s : State) (p b : Byte) : s.handle (.latch p b) = s.latchWrite p b := rfl

/-- A run that has ended takes no turn of the host. -/
theorem hostTurn_of_ended {s : State} (h : s.ended = true) : s.hostTurn = s := by
  simp [State.hostTurn, h]

/-- Past the end of the timeline the host does nothing. -/
theorem hostTurn_of_empty {s : State} (h : s.timeline = []) : s.hostTurn = s := by
  simp [State.hostTurn, h]

/-- A property that ticks, raises and latch writes of the turn keep is kept by its events. -/
theorem drain_keeps {P : State → Prop} (es : List HostEvent) {s : State} (hs : P s)
    (he : ∀ e ∈ es, ∀ u, P u → P (u.handle e)) : P (s.drain es) := by
  induction es generalizing s with
  | nil => exact hs
  | cons e rest ih =>
    have h1 : P (s.handle e) := he e (by simp) s hs
    unfold State.drain
    split
    · exact h1
    · exact ih h1 fun e' h' => he e' (by simp [h'])

/-- A property that the turn's events, the passing of the turn and `clearDirty` keep is kept by the host's turn. -/
theorem hostTurn_keeps {P : State → Prop} {s : State} (hs : P s)
    (hrest : ∀ turn rest, s.timeline = turn :: rest → P { s with timeline := rest })
    (he : ∀ turn rest, s.timeline = turn :: rest → ∀ e ∈ turn.events, ∀ u, P u → P (u.handle e))
    (hc : ∀ turn rest, s.timeline = turn :: rest → turn.clearDirty = true → ∀ u, P u → P u.clearDirty) :
    P s.hostTurn := by
  unfold State.hostTurn
  split
  · exact hs
  · split
    · exact hs
    · rename_i turn rest ht
      have hd := drain_keeps (P := P) turn.events (hrest turn rest ht) (he turn rest ht)
      dsimp only
      split
      · rename_i hcd
        simp only [Bool.and_eq_true] at hcd
        exact hc turn rest ht hcd.1 _ hd
      · exact hd

end Sys2Proof.Machine
end

