-- ==== Sys2Proof/Tests/Slice0.lean ====
section
/-! SUPPORT. The model's own tests, each of one step on a small state, and a witness for each statement's premises.
The expected results are the vectors V<n> and examples X<n> of spec/95_test_vectors.md, and words written out from
spec/30_encoding.md. -/

namespace Sys2Proof.Tests

open Sys2Proof.Machine

/-! ### Set-up -/

/-- The vectors' parameters: the reference values, with the OPEN ones fixed as the vectors fix them. -/
def testConfig : Config :=
  { Config.reference with portInPresent := 0x00#8, presentValue := 0x0E#8, altAdvance := .onTick }

/-- The reset state with those parameters. -/
def base : State := { State.reset with cfg := testConfig }

/-- Code placed at an address, and PC there. -/
def startAt (a : Addr) (code : List Byte) (s : State) : State := { s with pc := a, mem := s.mem.writeAll a.toNat code }

/-- The vectors' code address. -/
def start (code : List Byte) (s : State) : State := startAt 0x2100 code s

/-- A state with given HL and SP. -/
def pointing (hl sp : Word) : State := { base with regs.h := hl.high, regs.l := hl.low, sp := sp }

/-! ### Well-formedness: each check refuses something -/

theorem test_wf_config : Config.wf testConfig = true := rfl

theorem test_wf_refuses_regions_out_of_order :
    Config.wf { testConfig with protectLimit := 0x2401 } = false ∧
    Config.wf { testConfig with videoBase := 0x4000 } = false ∧
    Config.wf { testConfig with memSize := 0x3FFF } = false ∧
    Config.wf { testConfig with memSize := 0x10001 } = false := ⟨rfl, rfl, rfl, rfl⟩

theorem test_wf_refuses_origin_outside_address_space :
    Config.wf { testConfig with loadOrigin := 0x10000 } = false := rfl

theorem test_wf_refuses_equal_input_ports :
    Config.wf { testConfig with portInPresent := 0x01#8 } = false ∧
    Config.wf { testConfig with portInShift := 0x00#8 } = false ∧
    Config.wf { testConfig with portInButtons := 0x03#8 } = false := ⟨rfl, rfl, rfl⟩

theorem test_wf_refuses_equal_output_ports :
    Config.wf { testConfig with portOutShiftData := 0x02#8 } = false := rfl

theorem test_wf_refuses_unimplemented_rows :
    Instr.wf testConfig .alias08 = false ∧ Instr.wf testConfig .daa = false ∧ Instr.wf testConfig .aliasFD = false ∧
    Instr.wf testConfig .pchl = false ∧ Instr.wf { testConfig with enablePchl := true } .pchl = true ∧
    Instr.wf testConfig .nop = true := ⟨rfl, rfl, rfl, rfl, rfl, rfl⟩

/-! ### Decoding: words written out bit by bit from spec/30_encoding.md -/

theorem test_decode_moves :
    decode [0b01_010_001#8] = .ok (.movDC, []) ∧ decode [0b01_111_110#8] = .ok (.movAM, []) ∧
    decode [0b01_110_101#8] = .ok (.movML, []) ∧ decode [0b00_101_110#8, 0x7F#8] = .ok (.mviL 0x7F#8, []) ∧
    decode [0b00_110_110#8, 0x80#8] = .ok (.mviM 0x80#8, []) := ⟨rfl, rfl, rfl, rfl, rfl⟩

theorem test_decode_loads_and_stores :
    decode [0b00_01_0001#8, 0x34#8, 0x12#8] = .ok (.lxiD 0x1234#16, []) ∧
    decode [0b00_000_010#8] = .ok (.staxB, []) ∧ decode [0b00_001_010#8] = .ok (.ldaxB, []) ∧
    decode [0b00_110_010#8, 0x00#8, 0x24#8] = .ok (.sta 0x2400#16, []) ∧
    decode [0b00_111_010#8, 0x00#8, 0x24#8] = .ok (.lda 0x2400#16, []) ∧
    decode [0b00_101_010#8, 0x00#8, 0x24#8] = .ok (.lhld 0x2400#16, []) := ⟨rfl, rfl, rfl, rfl, rfl, rfl⟩

theorem test_decode_stack_and_exchange :
    decode [0b11_11_0001#8] = .ok (.popPsw, []) ∧ decode [0b11_10_0101#8] = .ok (.pushH, []) ∧
    decode [0b11_101_011#8] = .ok (.xchg, []) ∧ decode [0b11_100_011#8] = .ok (.xthl, []) ∧
    decode [0b11_111_001#8] = .ok (.sphl, []) := ⟨rfl, rfl, rfl, rfl, rfl⟩

theorem test_decode_arithmetic :
    decode [0b10_001_011#8] = .ok (.adcE, []) ∧ decode [0b10_011_110#8] = .ok (.sbbM, []) ∧
    decode [0b10_111_000#8] = .ok (.cmpB, []) ∧ decode [0b11_101_110#8, 0xAA#8] = .ok (.xri 0xAA#8, []) ∧
    decode [0b00_110_100#8] = .ok (.inrM, []) ∧ decode [0b00_111_101#8] = .ok (.dcrA, []) ∧
    decode [0b00_11_0011#8] = .ok (.inxSp, []) ∧ decode [0b00_00_1011#8] = .ok (.dcxB, []) ∧
    decode [0b00_10_1001#8] = .ok (.dadH, []) := ⟨rfl, rfl, rfl, rfl, rfl, rfl, rfl, rfl, rfl⟩

theorem test_decode_rotates_and_carry :
    decode [0b00_000_111#8] = .ok (.rlc, []) ∧ decode [0b00_001_111#8] = .ok (.rrc, []) ∧
    decode [0b00_010_111#8] = .ok (.ral, []) ∧ decode [0b00_011_111#8] = .ok (.rar, []) ∧
    decode [0b00_101_111#8] = .ok (.cma, []) ∧ decode [0b00_111_111#8] = .ok (.cmc, []) ∧
    decode [0b00_110_111#8] = .ok (.stc, []) := ⟨rfl, rfl, rfl, rfl, rfl, rfl, rfl⟩

theorem test_decode_control_transfer :
    decode [0b11_110_000#8] = .ok (.rp, []) ∧ decode [0b11_001_001#8] = .ok (.ret, []) ∧
    decode [0b11_100_010#8, 0x00#8, 0x30#8] = .ok (.jpo 0x3000#16, []) ∧
    decode [0b11_000_011#8, 0x00#8, 0x30#8] = .ok (.jmp 0x3000#16, []) ∧
    decode [0b11_111_100#8, 0x00#8, 0x30#8] = .ok (.cm 0x3000#16, []) ∧
    decode [0b11_001_101#8, 0x00#8, 0x30#8] = .ok (.call 0x3000#16, []) ∧
    decode [0b11_101_111#8] = .ok (.rst5, []) ∧ decode [0b11_101_001#8] = .ok (.pchl, []) :=
  ⟨rfl, rfl, rfl, rfl, rfl, rfl, rfl, rfl⟩

theorem test_decode_system :
    decode [0b11_111_011#8] = .ok (.ei, []) ∧ decode [0b11_110_011#8] = .ok (.di, []) ∧
    decode [0b11_011_011#8, 0x01#8] = .ok (.inp 0x01#8, []) ∧ decode [0b11_010_011#8, 0x04#8] = .ok (.out 0x04#8, []) ∧
    decode [0b01_110_110#8] = .ok (.hlt, []) ∧ decode [0b00_000_000#8] = .ok (.nop, []) :=
  ⟨rfl, rfl, rfl, rfl, rfl, rfl⟩

theorem test_decode_refuses_missing_bytes :
    decode [] = .error .noOpcode ∧ decode [0xC6#8] = .error (.missingOperand 0xC6#8) ∧
    decode [0xC3#8, 0x00#8] = .error (.missingOperand 0xC3#8) := ⟨rfl, rfl, rfl⟩

theorem test_decode_table_word :
    decodeTableWord 8 0x41 = some .movBC ∧ decodeTableWord 16 0x05C6 = some (.adi 0x05#8) ∧
    decodeTableWord 24 0x123401 = some (.lxiB 0x1234#16) ∧ decodeTableWord 8 0xC3 = some (.jmp 0x0000#16) :=
  ⟨rfl, rfl, rfl, rfl⟩

/-! ### Reset and the placed word -/

/-- R175: what the placed word changes is memory alone at reset. -/
theorem test_with_fetch_word_at_reset :
    State.reset.withFetchWord 16 0x053E = { State.reset with mem := [(0, 0x3E#8), (1, 0x05#8)] } := rfl

theorem test_step_runs_placed_word :
    step (State.reset.withFetchWord 16 0x053E) =
      .next { State.reset with mem := [(0, 0x3E#8), (1, 0x05#8)], regs.a := 0x05#8, pc := 2 } := rfl

/-- Log entry 10: an ended run is taken up again, at 0x0000 where three bytes cannot be fetched. -/
theorem test_with_fetch_word_from_the_edge :
    ({ base with pc := 0x3FFE, halted := true }.withFetchWord 8 0x76).pc = 0 ∧
    ({ base with pc := 0x3FFE, halted := true }.withFetchWord 8 0x76).halted = false ∧
    ({ base with pc := 0x3FFD }.withFetchWord 8 0x76).pc = 0x3FFD := ⟨rfl, rfl, rfl⟩

/-! ### The report of a step (the outcome column of the vectors) -/

/-- V1, V21, V104, V109, V112, V116's last remark. -/
theorem test_step_reports :
    stepReport (start [0x00] base) = some (.continue .none) ∧
    stepReport (start [0x22, 0xFF, 0x3F] base) = some (.fault ⟨.outOfRange, 0x4000, some 0x22⟩) ∧
    stepReport (start [0xDB, 0x01] base) = some (.continue (.inp 0x01)) ∧
    stepReport (start [0xD3, 0x04] { base with regs.a := 0x12 }) = some (.continue (.out 0x04 0x12)) ∧
    stepReport (start [0x76] base) = some .halted ∧
    stepReport { base with pc := 0x4000 } = some (.fault ⟨.outOfRange, 0x4000, none⟩) ∧
    stepReport { base with halted := true } = none := ⟨rfl, rfl, rfl, rfl, rfl, rfl, rfl⟩

/-! ### The host's side -/

/-- R65: the load passes the gate, and an image one byte too long is refused. -/
theorem test_load_image :
    loadImage [0x3E#8, 0x05#8] base = .next { base with mem := [(0, 0x3E#8), (1, 0x05#8)] } ∧
    loadImage [0x3E#8, 0x05#8] { base with cfg.loadOrigin := 0x3FFF } = .refused .imageTooLarge := ⟨rfl, rfl⟩

/-- R50, R66. -/
theorem test_clear_dirty_and_video_read :
    ({ base with dirty := true }.clearDirty).dirty = false ∧
    { base with mem := [(0x2400, 0x81#8)] }.videoRead 0x2400 = some 0x81#8 ∧ base.videoRead 0x23FF = none :=
  ⟨rfl, rfl, rfl⟩

/-- A halted iteration drains no event (R163). -/
theorem test_halt_skips_the_events :
    let s := start [0x76] { base with ime := true, sp := 0x2400, timeline := [⟨[.tick], true⟩] }
    step s = .next { s with halted := true, pc := 0x2101 } := rfl

/-- The host's `clearDirty()` comes after the iteration's events. -/
theorem test_clear_dirty_ends_the_iteration :
    let s := start [0x32, 0x00, 0x24] { base with regs.a := 0x55, timeline := [⟨[], true⟩] }
    step s = .next { s with pc := 0x2103, mem := s.mem.write 0x2400 0x55, timeline := [] } := rfl

/-! ### The spec's vectors, one step each -/

/-- V1. -/
theorem test_nop :
    let s := start [0x00] base
    step s = .next { s with pc := 0x2101 } := rfl

/-- V2. -/
theorem test_mov_b_c :
    let s := start [0x41] { base with regs.c := 0x5A }
    step s = .next { s with regs.b := 0x5A, pc := 0x2101 } := rfl

/-- V3. -/
theorem test_mov_a_m :
    let s := start [0x7E] { base with regs.h := 0x20, regs.l := 0x00, mem := [(0x2000, 0x99)] }
    step s = .next { s with regs.a := 0x99, pc := 0x2101 } := rfl

/-- V4. -/
theorem test_mov_h_m :
    let s := start [0x66] { base with regs.h := 0x20, regs.l := 0x10, mem := [(0x2010, 0x3F)] }
    step s = .next { s with regs.h := 0x3F, pc := 0x2101 } := rfl

/-- V5. -/
theorem test_mov_m_a_video :
    let s := start [0x77] { base with regs.a := 0xFF, regs.h := 0x24, regs.l := 0x00 }
    step s = .next { s with pc := 0x2101, dirty := true, mem := s.mem.write 0x2400 0xFF } := rfl

/-- V6. -/
theorem test_mov_m_a_protected :
    let s := start [0x77] { base with regs.a := 0xFF, regs.h := 0x10, regs.l := 0x00 }
    step s = .next { s with pc := 0x2101, events := [⟨0x1000, 0xFF⟩] } := rfl

/-- V8. -/
theorem test_mvi_a :
    let s := start [0x3E, 0x05] base
    step s = .next { s with regs.a := 0x05, pc := 0x2102 } := rfl

/-- V9. -/
theorem test_mvi_m :
    let s := start [0x36, 0x3C] { base with regs.h := 0x24, regs.l := 0x01 }
    step s = .next { s with pc := 0x2102, dirty := true, mem := s.mem.write 0x2401 0x3C } := rfl

/-- V11. -/
theorem test_lxi_b :
    let s := start [0x01, 0x34, 0x12] base
    step s = .next { s with regs.b := 0x12, regs.c := 0x34, pc := 0x2103 } := rfl

/-- V12. -/
theorem test_lxi_sp :
    let s := start [0x31, 0xFF, 0xFF] base
    step s = .next { s with sp := 0xFFFF, pc := 0x2103 } := rfl

/-- V13. -/
theorem test_ldax_d :
    let s := start [0x1A] { base with regs.d := 0x20, regs.e := 0x10, mem := [(0x2010, 0x42)] }
    step s = .next { s with regs.a := 0x42, pc := 0x2101 } := rfl

/-- V14. -/
theorem test_stax_b :
    let s := start [0x02] { base with regs.a := 0x81, regs.b := 0x30, regs.c := 0x00 }
    step s = .next { s with pc := 0x2101, dirty := true, mem := s.mem.write 0x3000 0x81 } := rfl

/-- V15. -/
theorem test_lda :
    let s := start [0x3A, 0xC0, 0x20] { base with mem := [(0x20C0, 0x07)] }
    step s = .next { s with regs.a := 0x07, pc := 0x2103 } := rfl

/-- V22. -/
theorem test_lda_out_of_range :
    let s := start [0x3A, 0x00, 0x40] base
    step s = .next { s with pc := 0x2103, fault := some ⟨.outOfRange, 0x4000, some 0x3A⟩ } := rfl

/-- V16. -/
theorem test_sta_protected :
    let s := start [0x32, 0x00, 0x10] { base with regs.a := 0x55 }
    step s = .next { s with pc := 0x2103, events := [⟨0x1000, 0x55⟩] } := rfl

/-- V17. -/
theorem test_sta_video :
    let s := start [0x32, 0x00, 0x24] { base with regs.a := 0x55 }
    step s = .next { s with pc := 0x2103, dirty := true, mem := s.mem.write 0x2400 0x55 } := rfl

/-- V18. -/
theorem test_lhld :
    let s := start [0x2A, 0x00, 0x20] { base with mem := [(0x2000, 0xCD), (0x2001, 0xAB)] }
    step s = .next { s with regs.h := 0xAB, regs.l := 0xCD, pc := 0x2103 } := rfl

/-- V20. -/
theorem test_shld_over_the_limit :
    let s := start [0x22, 0xFF, 0x1F] { base with regs.h := 0xAB, regs.l := 0xCD }
    step s = .next { s with pc := 0x2103, mem := s.mem.write 0x2000 0xAB, events := [⟨0x1FFF, 0xCD⟩] } := rfl

/-- V21. -/
theorem test_shld_top_of_memory :
    let s := start [0x22, 0xFF, 0x3F] { base with regs.h := 0xAB, regs.l := 0xCD }
    step s = .next { s with
      pc := 0x2103, dirty := true, mem := s.mem.write 0x3FFF 0xCD
      fault := some ⟨.outOfRange, 0x4000, some 0x22⟩ } := rfl

/-- V24. -/
theorem test_push_b :
    let s := start [0xC5] { base with regs.b := 0x12, regs.c := 0x34, sp := 0x2400 }
    step s = .next { s with sp := 0x23FE, pc := 0x2101, mem := (s.mem.write 0x23FE 0x34).write 0x23FF 0x12 } := rfl

/-- V25. -/
theorem test_push_psw :
    let s := start [0xF5] { base with
      regs.a := 0x00, flags.z := true, flags.p := true, flags.cy := true, sp := 0x2400 }
    step s = .next { s with sp := 0x23FE, pc := 0x2101, mem := s.mem.write 0x23FE 0x47 } := rfl

/-- V27. -/
theorem test_push_h_out_of_range :
    let s := start [0xE5] { base with regs.h := 0x12, regs.l := 0x34, sp := 0x0000 }
    step s = .next { s with sp := 0xFFFE, pc := 0x2101, fault := some ⟨.outOfRange, 0xFFFE, some 0xE5⟩ } := rfl

/-- V28. -/
theorem test_pop_d :
    let s := start [0xD1] { base with sp := 0x23FE, mem := [(0x23FE, 0x34), (0x23FF, 0x12)] }
    step s = .next { s with regs.d := 0x12, regs.e := 0x34, sp := 0x2400, pc := 0x2101 } := rfl

/-- V29. -/
theorem test_pop_psw :
    let s := start [0xF1] { base with sp := 0x23FE, mem := [(0x23FE, 0xFF), (0x23FF, 0x80)] }
    step s = .next { s with
      regs.a := 0x80, sp := 0x2400, pc := 0x2101, flags.s := true, flags.z := true, flags.ac := true, flags.p := true
      flags.cy := true } := rfl

/-- V30. -/
theorem test_pop_b_top_of_memory :
    let s := start [0xC1] { base with sp := 0x3FFE, mem := [(0x3FFE, 0x11), (0x3FFF, 0x22)] }
    step s = .next { s with regs.b := 0x22, regs.c := 0x11, sp := 0x4000, pc := 0x2101 } := rfl

/-- V32. -/
theorem test_xchg :
    let s := start [0xEB] { base with regs.d := 0x12, regs.e := 0x34, regs.h := 0x56, regs.l := 0x78 }
    step s = .next { s with regs.d := 0x56, regs.e := 0x78, regs.h := 0x12, regs.l := 0x34, pc := 0x2101 } := rfl

/-- V33. -/
theorem test_xthl :
    let s := start [0xE3] { base with
      regs.h := 0xAA, regs.l := 0xBB, sp := 0x2300, mem := [(0x2300, 0x11), (0x2301, 0x22)] }
    step s = .next { s with
      regs.h := 0x22, regs.l := 0x11, pc := 0x2101, mem := (s.mem.write 0x2300 0xBB).write 0x2301 0xAA } := rfl

/-- V34. -/
theorem test_xthl_protected :
    let s := start [0xE3] { base with
      regs.h := 0xAA, regs.l := 0xBB, sp := 0x1000, mem := [(0x1000, 0x11), (0x1001, 0x22)] }
    step s = .next { s with
      regs.h := 0x22, regs.l := 0x11, pc := 0x2101, events := [⟨0x1000, 0xBB⟩, ⟨0x1001, 0xAA⟩] } := rfl

/-- V35. -/
theorem test_sphl :
    let s := start [0xF9] { base with regs.h := 0x24, regs.l := 0x00 }
    step s = .next { s with sp := 0x2400, pc := 0x2101 } := rfl

/-- V36. -/
theorem test_inx_b :
    let s := start [0x03] { base with regs.b := 0x00, regs.c := 0xFF }
    step s = .next { s with regs.b := 0x01, regs.c := 0x00, pc := 0x2101 } := rfl

/-- V37. -/
theorem test_inx_sp :
    let s := start [0x33] { base with sp := 0xFFFF }
    step s = .next { s with sp := 0x0000, pc := 0x2101 } := rfl

/-- V38. -/
theorem test_dcx_d :
    let s := start [0x1B] { base with regs.d := 0x00, regs.e := 0x00 }
    step s = .next { s with regs.d := 0xFF, regs.e := 0xFF, pc := 0x2101 } := rfl

/-- V39. -/
theorem test_dad_b :
    let s := start [0x09] { base with regs.h := 0x80, regs.l := 0x00, regs.b := 0x80, regs.c := 0x00 }
    step s = .next { s with regs.h := 0x00, pc := 0x2101, flags.cy := true } := rfl

/-- V40. -/
theorem test_dad_h :
    let s := start [0x29] { base with regs.h := 0x12, regs.l := 0x34 }
    step s = .next { s with regs.h := 0x24, regs.l := 0x68, pc := 0x2101 } := rfl

/-- V41. -/
theorem test_dad_sp :
    let s := start [0x39] { base with regs.h := 0xFF, regs.l := 0xFF, sp := 0x0001, flags.z := true }
    step s = .next { s with regs.h := 0x00, regs.l := 0x00, pc := 0x2101, flags.cy := true } := rfl

/-- V42. -/
theorem test_add_b :
    let s := start [0x80] { base with regs.a := 0x05, regs.b := 0x03 }
    step s = .next { s with regs.a := 0x08, pc := 0x2101 } := rfl

/-- V43. -/
theorem test_add_a :
    let s := start [0x87] { base with regs.a := 0x80 }
    step s = .next { s with regs.a := 0x00, pc := 0x2101, flags.z := true, flags.p := true, flags.cy := true } := rfl

/-- V44. -/
theorem test_adi :
    let s := start [0xC6, 0x01] { base with regs.a := 0xFF }
    step s = .next { s with regs.a := 0x00, pc := 0x2102, flags.z := true, flags.p := true, flags.cy := true } := rfl

/-- V45. -/
theorem test_adc_c :
    let s := start [0x89] { base with regs.a := 0xFE, regs.c := 0x01, flags.cy := true }
    step s = .next { s with regs.a := 0x00, pc := 0x2101, flags.z := true, flags.p := true } := rfl

/-- V46. -/
theorem test_aci :
    let s := start [0xCE, 0x00] { base with regs.a := 0xFF, flags.cy := true }
    step s = .next { s with regs.a := 0x00, pc := 0x2102, flags.z := true, flags.p := true } := rfl

/-- V47. -/
theorem test_sub_b :
    let s := start [0x90] { base with regs.a := 0x03, regs.b := 0x05 }
    step s = .next { s with regs.a := 0xFE, pc := 0x2101, flags.s := true, flags.cy := true } := rfl

/-- V48. -/
theorem test_sub_a :
    let s := start [0x97] { base with regs.a := 0x42, flags.cy := true }
    step s = .next { s with regs.a := 0x00, pc := 0x2101, flags.z := true, flags.p := true, flags.cy := false } := rfl

/-- V49. -/
theorem test_sui :
    let s := start [0xD6, 0x01] { base with regs.a := 0x00 }
    step s = .next { s with regs.a := 0xFF, pc := 0x2102, flags.s := true, flags.p := true, flags.cy := true } := rfl

/-- V50. -/
theorem test_sui_not_borrow :
    let s := start [0xD6, 0x01] { base with regs.a := 0x00, cfg.subCySense := .notBorrow }
    step s = .next { s with regs.a := 0xFF, pc := 0x2102, flags.s := true, flags.p := true } := rfl

/-- V51. -/
theorem test_sbb_b :
    let s := start [0x98] { base with regs.a := 0x05, regs.b := 0x04, flags.cy := true }
    step s = .next { s with regs.a := 0x00, pc := 0x2101, flags.z := true, flags.p := true, flags.cy := false } := rfl

/-- V52. -/
theorem test_sbi :
    let s := start [0xDE, 0xFF] { base with regs.a := 0x00, flags.cy := true }
    step s = .next { s with pc := 0x2102, flags.z := true, flags.p := true } := rfl

/-- V53. -/
theorem test_ana_e :
    let s := start [0xA3] { base with regs.a := 0xF0, regs.e := 0x3C, flags.cy := true }
    step s = .next { s with regs.a := 0x30, pc := 0x2101, flags.p := true, flags.cy := false } := rfl

/-- V54. -/
theorem test_xra_a :
    let s := start [0xAF] { base with regs.a := 0x5A, flags.cy := true }
    step s = .next { s with regs.a := 0x00, pc := 0x2101, flags.z := true, flags.p := true, flags.cy := false } := rfl

/-- V55. -/
theorem test_ora_m :
    let s := start [0xB6] { base with regs.a := 0x01, regs.h := 0x20, regs.l := 0x00, mem := [(0x2000, 0x80)] }
    step s = .next { s with regs.a := 0x81, pc := 0x2101, flags.s := true, flags.p := true } := rfl

/-- V56. -/
theorem test_cmp_b_equal :
    let s := start [0xB8] { base with regs.a := 0x05, regs.b := 0x05 }
    step s = .next { s with pc := 0x2101, flags.z := true, flags.p := true } := rfl

/-- V57. -/
theorem test_cmp_b_less :
    let s := start [0xB8] { base with regs.a := 0x04, regs.b := 0x05 }
    step s = .next { s with pc := 0x2101, flags.s := true, flags.p := true, flags.cy := true } := rfl

/-- V58. -/
theorem test_cpi :
    let s := start [0xFE, 0x03] { base with regs.a := 0x05 }
    step s = .next { s with pc := 0x2102 } := rfl

/-- V59. -/
theorem test_ani :
    let s := start [0xE6, 0x0F] { base with regs.a := 0x3C }
    step s = .next { s with regs.a := 0x0C, pc := 0x2102, flags.p := true } := rfl

/-- V60. -/
theorem test_xri :
    let s := start [0xEE, 0xFF] { base with regs.a := 0x0F }
    step s = .next { s with regs.a := 0xF0, pc := 0x2102, flags.s := true, flags.p := true } := rfl

/-- V61. -/
theorem test_ori :
    let s := start [0xF6, 0x00] { base with regs.a := 0x00, flags.cy := true }
    step s = .next { s with pc := 0x2102, flags.z := true, flags.p := true, flags.cy := false } := rfl

/-- V62. -/
theorem test_rlc :
    let s := start [0x07] { base with regs.a := 0x81 }
    step s = .next { s with regs.a := 0x03, pc := 0x2101, flags.cy := true } := rfl

/-- V63. -/
theorem test_rrc :
    let s := start [0x0F] { base with regs.a := 0x01 }
    step s = .next { s with regs.a := 0x80, pc := 0x2101, flags.cy := true } := rfl

/-- V64. -/
theorem test_ral :
    let s := start [0x17] { base with regs.a := 0x80, flags.cy := false }
    step s = .next { s with regs.a := 0x00, pc := 0x2101, flags.cy := true } := rfl

/-- V65. -/
theorem test_rar :
    let s := start [0x1F] { base with regs.a := 0x01, flags.cy := true }
    step s = .next { s with regs.a := 0x80, pc := 0x2101 } := rfl

/-- V66. -/
theorem test_cma :
    let s := start [0x2F] { base with regs.a := 0x51, flags.z := true }
    step s = .next { s with regs.a := 0xAE, pc := 0x2101 } := rfl

/-- V67. -/
theorem test_cmc :
    let s := start [0x3F] { base with flags.cy := true }
    step s = .next { s with pc := 0x2101, flags.cy := false } := rfl

/-- V68. -/
theorem test_stc :
    let s := start [0x37] base
    step s = .next { s with pc := 0x2101, flags.cy := true } := rfl

/-- V69. -/
theorem test_inr_b :
    let s := start [0x04] { base with regs.b := 0xFF, flags.cy := true }
    step s = .next { s with regs.b := 0x00, pc := 0x2101, flags.z := true, flags.p := true } := rfl

/-- V70. -/
theorem test_inr_a :
    let s := start [0x3C] { base with regs.a := 0x7F }
    step s = .next { s with regs.a := 0x80, pc := 0x2101, flags.s := true } := rfl

/-- V71. -/
theorem test_dcr_c :
    let s := start [0x0D] { base with regs.c := 0x00 }
    step s = .next { s with regs.c := 0xFF, pc := 0x2101, flags.s := true, flags.p := true } := rfl

/-- V72. -/
theorem test_dcr_a :
    let s := start [0x3D] { base with regs.a := 0x01, flags.cy := true }
    step s = .next { s with regs.a := 0x00, pc := 0x2101, flags.z := true, flags.p := true } := rfl

/-- V73. -/
theorem test_inr_m :
    let s := start [0x34] { base with regs.h := 0x24, regs.l := 0x00, mem := [(0x2400, 0x0F)] }
    step s = .next { s with pc := 0x2101, dirty := true, mem := s.mem.write 0x2400 0x10 } := rfl

/-- V74. -/
theorem test_inr_m_protected :
    let s := start [0x34] { base with regs.h := 0x10, regs.l := 0x00, mem := [(0x1000, 0xFF)] }
    step s = .next { s with pc := 0x2101, flags.z := true, flags.p := true, events := [⟨0x1000, 0x00⟩] } := rfl

/-- V75, V76. -/
theorem test_jnz :
    (let s := start [0xC2, 0x00, 0x30] { base with flags.z := false }
    step s = .next { s with pc := 0x3000 }) ∧
    (let s := start [0xC2, 0x00, 0x30] { base with flags.z := true }
    step s = .next { s with pc := 0x2103 }) := ⟨rfl, rfl⟩

/-- V77, V78. -/
theorem test_jz :
    (let s := start [0xCA, 0x00, 0x30] { base with flags.z := true }
    step s = .next { s with pc := 0x3000 }) ∧
    (let s := start [0xCA, 0x00, 0x30] { base with flags.z := false }
    step s = .next { s with pc := 0x2103 }) := ⟨rfl, rfl⟩

/-- V79, V80. -/
theorem test_jnc :
    (let s := start [0xD2, 0x00, 0x30] { base with flags.cy := false }
    step s = .next { s with pc := 0x3000 }) ∧
    (let s := start [0xD2, 0x00, 0x30] { base with flags.cy := true }
    step s = .next { s with pc := 0x2103 }) := ⟨rfl, rfl⟩

/-- V81, V82. -/
theorem test_jc :
    (let s := start [0xDA, 0x00, 0x30] { base with flags.cy := true }
    step s = .next { s with pc := 0x3000 }) ∧
    (let s := start [0xDA, 0x00, 0x30] { base with flags.cy := false }
    step s = .next { s with pc := 0x2103 }) := ⟨rfl, rfl⟩

/-- V83, V84. -/
theorem test_jpo :
    (let s := start [0xE2, 0x00, 0x30] { base with flags.p := false }
    step s = .next { s with pc := 0x3000 }) ∧
    (let s := start [0xE2, 0x00, 0x30] { base with flags.p := true }
    step s = .next { s with pc := 0x2103 }) := ⟨rfl, rfl⟩

/-- V85, V86. -/
theorem test_jpe :
    (let s := start [0xEA, 0x00, 0x30] { base with flags.p := true }
    step s = .next { s with pc := 0x3000 }) ∧
    (let s := start [0xEA, 0x00, 0x30] { base with flags.p := false }
    step s = .next { s with pc := 0x2103 }) := ⟨rfl, rfl⟩

/-- V87, V88. -/
theorem test_jp :
    (let s := start [0xF2, 0x00, 0x30] { base with flags.s := false }
    step s = .next { s with pc := 0x3000 }) ∧
    (let s := start [0xF2, 0x00, 0x30] { base with flags.s := true }
    step s = .next { s with pc := 0x2103 }) := ⟨rfl, rfl⟩

/-- V89, V90. -/
theorem test_jm :
    (let s := start [0xFA, 0x00, 0x30] { base with flags.s := true }
    step s = .next { s with pc := 0x3000 }) ∧
    (let s := start [0xFA, 0x00, 0x30] { base with flags.s := false }
    step s = .next { s with pc := 0x2103 }) := ⟨rfl, rfl⟩

/-- V91. -/
theorem test_jmp :
    let s := start [0xC3, 0x20, 0x00] base
    step s = .next { s with pc := 0x0020 } := rfl

/-- V92, V93. -/
theorem test_cc :
    (let s := start [0xDC, 0x10, 0x00] { base with flags.cy := true, sp := 0x2400 }
    step s = .next { s with sp := 0x23FE, pc := 0x0010, mem := (s.mem.write 0x23FE 0x03).write 0x23FF 0x21 }) ∧
    (let s := start [0xDC, 0x10, 0x00] { base with flags.cy := false, sp := 0x2400 }
    step s = .next { s with pc := 0x2103 }) := ⟨rfl, rfl⟩

/-- V94. -/
theorem test_call :
    let s := start [0xCD, 0x10, 0x00] { base with sp := 0x23FE }
    step s = .next { s with sp := 0x23FC, pc := 0x0010, mem := (s.mem.write 0x23FC 0x03).write 0x23FD 0x21 } := rfl

/-- V95, V96. -/
theorem test_rz :
    (let s := start [0xC8] { base with flags.z := true, sp := 0x23FC, mem := [(0x23FC, 0x0A)] }
    step s = .next { s with sp := 0x23FE, pc := 0x000A }) ∧
    (let s := start [0xC8] { base with flags.z := false, sp := 0x23FC, mem := [(0x23FC, 0x0A)] }
    step s = .next { s with pc := 0x2101 }) := ⟨rfl, rfl⟩

/-- V97. -/
theorem test_ret :
    let s := start [0xC9] { base with sp := 0x23FE, mem := [(0x23FE, 0x2D)] }
    step s = .next { s with sp := 0x2400, pc := 0x002D } := rfl

/-- V98. -/
theorem test_rst7 :
    let s := startAt 0x1234 [0xFF] { base with sp := 0x2400 }
    step s = .next { s with sp := 0x23FE, pc := 0x0038, mem := (s.mem.write 0x23FE 0x35).write 0x23FF 0x12 } := rfl

/-- V99. -/
theorem test_rst0 :
    let s := start [0xC7] { base with sp := 0x2400 }
    step s = .next { s with sp := 0x23FE, pc := 0x0000, mem := (s.mem.write 0x23FE 0x01).write 0x23FF 0x21 } := rfl

/-- V100. -/
theorem test_pchl_disabled :
    let s := start [0xE9] { base with regs.h := 0x01, regs.l := 0x23 }
    step s = .next { s with pc := 0x2101, fault := some ⟨.unimplementedOpcode, 0x2100, some 0xE9⟩ } := rfl

/-- V101. -/
theorem test_pchl_enabled :
    let s := start [0xE9] { base with regs.h := 0x01, regs.l := 0x23, cfg.enablePchl := true }
    step s = .next { s with pc := 0x0123 } := rfl

/-- V102. -/
theorem test_ei :
    let s := start [0xFB] base
    step s = .next { s with pc := 0x2101, ime := true } := rfl

/-- V103. -/
theorem test_di :
    let s := start [0xF3] { base with ime := true }
    step s = .next { s with pc := 0x2101, ime := false } := rfl

/-- V104. -/
theorem test_in_buttons :
    let s := start [0xDB, 0x01] { base with latch := [(0x01, 0x09)] }
    step s = .next { s with regs.a := 0x09, pc := 0x2102 } := rfl

/-- V105. -/
theorem test_in_shift :
    let s := start [0xDB, 0x03] { base with shifter.hi := 0x34, shifter.lo := 0x12, shifter.off := 5 }
    step s = .next { s with regs.a := 0x82, pc := 0x2102 } := rfl

/-- V109. -/
theorem test_out_data :
    let s := start [0xD3, 0x04] { base with regs.a := 0x12, shifter.hi := 0x34 }
    step s = .next { s with pc := 0x2102, shifter.hi := 0x12, shifter.lo := 0x34 } := rfl

/-- V110. -/
theorem test_out_offset :
    let s := start [0xD3, 0x02] { base with regs.a := 0xFD }
    step s = .next { s with pc := 0x2102, shifter.off := 5 } := rfl

/-- V112. -/
theorem test_hlt :
    let s := start [0x76] base
    step s = .next { s with pc := 0x2101, halted := true } := rfl

/-- V113. -/
theorem test_alias08 :
    let s := start [0x08] base
    step s = .next { s with pc := 0x2101, fault := some ⟨.unimplementedOpcode, 0x2100, some 0x08⟩ } := rfl

/-- V114. -/
theorem test_daa :
    let s := start [0x27] { base with regs.a := 0x09 }
    step s = .next { s with pc := 0x2101, fault := some ⟨.unimplementedOpcode, 0x2100, some 0x27⟩ } := rfl

/-- V115. -/
theorem test_aliasCB :
    let s := start [0xCB, 0x00, 0x00] base
    step s = .next { s with pc := 0x2101, fault := some ⟨.unimplementedOpcode, 0x2100, some 0xCB⟩ } := rfl

/-- V117. -/
theorem test_tick_delivered :
    let s := start [0x00] { base with ime := true, sp := 0x2400, timeline := [⟨[.tick], false⟩] }
    step s = .next { s with
      sp := 0x23FE, pc := 0x0008, ime := false, altLast := 1, mem := (s.mem.write 0x23FE 0x01).write 0x23FF 0x21
      timeline := [] } := rfl

/-- V118. -/
theorem test_tick_lost :
    let s := start [0x00] { base with ime := false, sp := 0x2400, timeline := [⟨[.tick], false⟩] }
    step s = .next { s with pc := 0x2101, altLast := 1, timeline := [] } := rfl

/-- V121. -/
theorem test_two_ticks :
    let s := start [0x00] { base with ime := true, sp := 0x2400, timeline := [⟨[.tick, .tick], false⟩] }
    step s = .next { s with
      sp := 0x23FE, pc := 0x0008, ime := false, altLast := 2, mem := (s.mem.write 0x23FE 0x01).write 0x23FF 0x21
      timeline := [] } := rfl

/-- V123. -/
theorem test_raise_bad_vector :
    let s := start [0x00] { base with ime := true, sp := 0x2400, timeline := [⟨[.raise 8], false⟩] }
    step s = .next { s with
      pc := 0x2101, fault := some ⟨.invalidInternalSelector, 0x2101, some 0x08⟩, timeline := [] } := rfl

/-- V124. -/
theorem test_tick_out_of_range :
    let s := start [0x00] { base with ime := true, sp := 0x0000, timeline := [⟨[.tick], false⟩] }
    step s = .next { s with
      sp := 0xFFFE, pc := 0x2101, fault := some ⟨.outOfRange, 0xFFFE, none⟩, timeline := [] } := rfl

/-- V126. -/
theorem test_latch_then_tick :
    let s := start [0xDB, 0x01] { base with
      ime := true, sp := 0x2400, timeline := [⟨[.latch 0x01 0x55, .tick], false⟩] }
    step s = .next { s with
      sp := 0x23FE, pc := 0x0008, ime := false, altLast := 1, latch := [(0x01, 0x55)]
      mem := (s.mem.write 0x23FE 0x02).write 0x23FF 0x21, timeline := [] } := rfl

/-- Log entry 17: under `wrap` a first push with SP = 0 goes where R44's index says, 0xFFFE mod 0x4000 = 0x3FFE and
0xFFFF mod 0x4000 = 0x3FFF, in the video window (R46); with `MEM_SIZE` 0xFFF0 the indexes are 0x0E and 0x0F, below
`PROTECT_LIMIT`, and the push is dropped as R178 says. -/
theorem test_first_push_under_wrap :
    (let s := start [0xC5] { base with regs.b := 0x12, regs.c := 0x34, cfg.oobPolicy := .wrap };
      step s = .next { s with
        sp := 0xFFFE, pc := 0x2101, dirty := true
        mem := (s.mem.write 0x3FFE 0x34).write 0x3FFF 0x12 }) ∧
    (let s := start [0xC5] { base with regs.b := 0x12, regs.c := 0x34, cfg.oobPolicy := .wrap, cfg.memSize := 0xFFF0 };
      step s = .next { s with sp := 0xFFFE, pc := 0x2101, events := [⟨0xFFFE, 0x34⟩, ⟨0xFFFF, 0x12⟩] }) := ⟨rfl, rfl⟩

/-! ### Witnesses: the premises of the statements hold together, clause by clause at the edges of their ranges -/

theorem witness_decoded_bytes : decode [0xC6#8, 0x05#8, 0x00#8] = .ok (.adi 0x05#8, [0x00#8]) := rfl

/-- 3-byte, 2-byte and 1-byte opcodes at the edges of their ranges, with just enough bytes and one too few. -/
theorem witness_opcode_lengths :
    (0x01#8 ∈ [0x01#8, 0xCD#8] ∧ 3 ≤ [0x34#8, 0x12#8].length + 1 ∧ [0x34#8].length + 1 < 3) ∧
    ((0xC2#8).toNat / 64 = 3 ∧ (0xC2#8).toNat % 8 = 2 ∧ (0xFC#8).toNat / 64 = 3 ∧ (0xFC#8).toNat % 8 = 4) ∧
    ((0x06#8).toNat / 64 = 0 ∧ (0x06#8).toNat % 8 = 6 ∧ (0xFE#8).toNat / 64 = 3 ∧ (0xFE#8).toNat % 8 = 6 ∧
      2 ≤ [0x34#8].length + 1 ∧ ([] : List Byte).length + 1 < 2) ∧
    1 ≤ ([] : List Byte).length + 1 := by decide

theorem holds_of_code {s : State} {i : Instr} (h : ∀ k < i.length, s.peek (s.pc + BitVec.ofNat 16 k) = (encode i)[k]?) :
    s.holdsInstr i := h

theorem witness_step_runs :
    (start [0x3E, 0x05] base).ended = false ∧ (start [0x3E, 0x05] base).holdsInstr (.mviA 0x05#8) ∧
    exec (.mviA 0x05#8) (start [0x3E, 0x05] base) =
      .next { start [0x3E, 0x05] base with regs.a := 0x05, pc := 0x2102 } :=
  ⟨rfl, holds_of_code (by decide), rfl⟩

theorem witness_step_after_end :
    { base with halted := true }.halted = true ∧
    { base with fault := some ⟨.outOfRange, 0x4000, none⟩ }.fault ≠ none := by decide

/-- An iteration that goes on to its events, and one that has halted. -/
theorem witness_iteration :
    (let s := start [0x00] { base with timeline := [⟨[.tick], true⟩] };
      s.ended = false ∧ s.holdsInstr .nop ∧ ∃ t, exec .nop s = .next t ∧ t.timeline = ⟨[.tick], true⟩ :: [] ∧
        t.ended = false ∧ t.fault = none) ∧
    (let s := start [0x76] { base with timeline := [⟨[.tick], true⟩] };
      s.ended = false ∧ s.holdsInstr .hlt ∧ ∃ t, exec .hlt s = .next t ∧ t.timeline = ⟨[.tick], true⟩ :: [] ∧
        t.ended = true) :=
  ⟨⟨rfl, holds_of_code (by decide), _, rfl, rfl, rfl, rfl⟩, ⟨rfl, holds_of_code (by decide), _, rfl, rfl, rfl⟩⟩

/-- An iteration whose timeline is at its end, and the three answers of a raise among its events. -/
theorem witness_iteration_events :
    (let s := start [0x00] base;
      s.ended = false ∧ s.holdsInstr .nop ∧ ∃ t, exec .nop s = .next t ∧ t.ended = false ∧ t.timeline = []) ∧
    (∃ u, State.raise base 7 = .lost u) ∧ (∃ u, State.raise { base with ime := true, sp := 0x2400 } 7 = .delivered u) ∧
    (∃ u, State.raise base 8 = .faulted u) :=
  ⟨⟨rfl, holds_of_code (by decide), _, rfl, rfl, rfl⟩, ⟨_, rfl⟩, ⟨_, rfl⟩, ⟨_, rfl⟩⟩

/-- Two registers that differ, and pairs that differ. -/
theorem witness_registers : Reg.a ≠ Reg.b ∧ Reg.h ≠ Reg.l ∧ RegPair.sp ≠ RegPair.hl := by decide

/-- The fetch that is out of range is the opcode's, the first operand's, the second operand's. -/
theorem witness_fetch_faults :
    (let s := { base with pc := 0x4000 };
      s.ended = false ∧ 0 < Instr.length .nop ∧ s.holdsPrefix .nop 0 ∧
        indexOf s.cfg (s.pc + BitVec.ofNat 16 0) = none) ∧
    (let s := startAt 0x3FFF [0xC6] base;
      s.ended = false ∧ 1 < Instr.length (.adi 0x05#8) ∧ s.holdsPrefix (.adi 0x05#8) 1 ∧
        indexOf s.cfg (s.pc + BitVec.ofNat 16 1) = none) ∧
    (let s := startAt 0x3FFE [0x01, 0x34] base;
      s.ended = false ∧ 2 < Instr.length (.lxiB 0x1234#16) ∧ s.holdsPrefix (.lxiB 0x1234#16) 2 ∧
        indexOf s.cfg (s.pc + BitVec.ofNat 16 2) = none) :=
  ⟨⟨rfl, by decide, by unfold State.holdsPrefix; decide, rfl⟩,
    ⟨rfl, by decide, by unfold State.holdsPrefix; decide, rfl⟩,
    ⟨rfl, by decide, by unfold State.holdsPrefix; decide, rfl⟩⟩

theorem witness_unimplemented :
    Instr.wf base.cfg .daa = false ∧ (start [0x27] base).ended = false ∧ (start [0x27] base).holdsInstr .daa ∧
    Instr.wf base.cfg .pchl = false ∧ (start [0xE9] base).holdsInstr .pchl :=
  ⟨rfl, rfl, holds_of_code (by decide), rfl, holds_of_code (by decide)⟩

/-- MOV r,M, MOV M,r, MVI M, ALU M, INR M and DCR M: HL at the last byte of memory and at the first address beyond,
and under wrap the byte that address names. -/
theorem witness_hl_in_and_out_of_range :
    (pointing 0x3FFF 0).mem.wf = true ∧ indexOf base.cfg (pointing 0x3FFF 0).regs.hl = some 0x3FFF ∧
    indexOf base.cfg (pointing 0x3FFF 0).regs.hl ≠ none ∧ indexOf base.cfg (pointing 0x4000 0).regs.hl = none ∧
    indexOf { base.cfg with oobPolicy := .wrap } (pointing 0x4000 0).regs.hl = some 0 := by decide

/-- LDAX, LDA, STAX and STA, each operand form. -/
theorem witness_accumulator_transfers :
    (let s := { base with regs.b := 0x3F, regs.c := 0xFF, regs.d := 0x40 };
      s.mem.wf = true ∧ s.regs.b ++ s.regs.c = 0x3FFF#16 ∧ indexOf s.cfg (s.regs.b ++ s.regs.c) = some 0x3FFF ∧
        indexOf s.cfg (s.regs.d ++ s.regs.e) = none ∧ indexOf s.cfg 0x0000#16 = some 0 ∧
        indexOf s.cfg 0xFFFF#16 = none) := by decide

/-- LHLD, SHLD, POP, RET, XTHL: both bytes in range, the first out of range, only the second out of range. -/
theorem witness_words_in_and_out_of_range :
    (pointing 0 0x3FFE).mem.wf = true ∧
    (indexOf base.cfg (pointing 0 0x3FFE).sp = some 0x3FFE ∧ indexOf base.cfg ((pointing 0 0x3FFE).sp + 1) = some 0x3FFF) ∧
    indexOf base.cfg (pointing 0 0x4000).sp = none ∧
    (indexOf base.cfg (pointing 0 0x3FFF).sp ≠ none ∧ indexOf base.cfg ((pointing 0 0x3FFF).sp + 1) = none) := by
  decide

/-- PUSH, CALL, RST and interrupt delivery: both stack bytes in range up to the top, and out of range below zero and
one above the top. -/
theorem witness_pushes_in_and_out_of_range :
    base.mem.wf = true ∧ indexOf base.cfg ((0x4000 : Word) - 2) ≠ none ∧ indexOf base.cfg ((0x4000 : Word) - 1) ≠ none ∧
    indexOf base.cfg ((0x0000 : Word) - 2) = none ∧ indexOf base.cfg ((0x0001 : Word) - 2) = none ∧
    indexOf base.cfg ((0x4001 : Word) - 2) ≠ none ∧ indexOf base.cfg ((0x4001 : Word) - 1) = none := by decide

/-- The pushed pair of `PushStoresBelowStackPointer` for each pair. -/
theorem witness_pushed_values :
    (∃ v : Word, v = base.regs.b ++ base.regs.c) ∧ (∃ v : Word, v = base.regs.a ++ base.flags.byte) :=
  ⟨⟨_, rfl⟩, ⟨_, rfl⟩⟩

/-- The lowest writable stack, the highest stack, and the highest protected one. -/
theorem witness_push_then_pop :
    (let s := pointing 0 0x2002;
      s.wf = true ∧ (s.sp - 2).toNat < s.cfg.memSize ∧ (s.sp - 1).toNat < s.cfg.memSize ∧
        s.cfg.protectLimit ≤ (s.sp - 2).toNat ∧ s.cfg.protectLimit ≤ (s.sp - 1).toNat) ∧
    (let s := pointing 0 0x4000;
      s.wf = true ∧ (s.sp - 2).toNat < s.cfg.memSize ∧ (s.sp - 1).toNat < s.cfg.memSize ∧
        s.cfg.protectLimit ≤ (s.sp - 2).toNat ∧ s.cfg.protectLimit ≤ (s.sp - 1).toNat) ∧
    (let s := pointing 0 0x2000;
      s.wf = true ∧ (s.sp - 2).toNat < s.cfg.memSize ∧ (s.sp - 1).toNat < s.cfg.memSize ∧
        (s.sp - 2).toNat < s.cfg.protectLimit ∧ (s.sp - 1).toNat < s.cfg.protectLimit) := by decide

/-- DAD and INR, DCR: the sums at the ends of the range. -/
theorem witness_sums :
    (65536 = ((pointing 0x8000 0).pair .hl).toNat + ((pointing 0x8000 0).pair .hl).toNat) ∧
    (0 = (if true then (255 + 1) % 256 else (255 + 255) % 256)) ∧ (255 = (if false then (0 + 1) % 256 else (0 + 255) % 256)) ∧
    ({ base with regs.b := 0xFF }.regs.get .b).toNat = 255 ∧ (base.regs.get .b).toNat = 0 ∧
    (base.mem.read 0).toNat = 0 := by decide

theorem witness_rotate : { base with regs.a := 0x81, flags.cy := true }.regs.a.toNat = 129 ∧
    { base with regs.a := 0x81, flags.cy := true }.flags.cy.toNat = 1 := ⟨rfl, rfl⟩

/-- Each condition taken and not taken. -/
theorem witness_conditions : ∀ cc : Cond, (∃ f : Flags, f.cond cc = true) ∧ ∃ f : Flags, f.cond cc = false := by
  intro cc
  cases cc <;>
    first
    | exact ⟨⟨⟨true, true, true, true, true⟩, rfl⟩, ⟨⟨false, false, false, false, false⟩, rfl⟩⟩
    | exact ⟨⟨⟨false, false, false, false, false⟩, rfl⟩, ⟨⟨true, true, true, true, true⟩, rfl⟩⟩

theorem witness_restart_numbers : (0 < 8) ∧ (7 < 8) := by decide

theorem witness_call_then_return :
    (let s := { pointing 0 0x2002 with flags.z := true };
      s.wf = true ∧ s.flags.cond .z = true ∧ (∃ a, Instr.call 0x0010#16 = .call a) ∧ (∃ n, Instr.rst7 = .rst n)) :=
  ⟨by decide, rfl, ⟨_, rfl⟩, ⟨7, rfl⟩⟩

theorem witness_jump_to_hl :
    { base with cfg.enablePchl := true }.cfg.enablePchl = true ∧ base.cfg.enablePchl = false := ⟨rfl, rfl⟩

/-- IN at each kind of port; the port numbers of the four cases are distinct where R7 holds. -/
theorem witness_ports :
    base.cfg.wf = true ∧ base.cfg.portInPresent = 0x00#8 ∧ base.cfg.portInButtons = 0x01#8 ∧
    base.cfg.portInShift = 0x03#8 ∧ 0xFF#8 ∉ [base.cfg.portInPresent, base.cfg.portInButtons, base.cfg.portInShift] ∧
    base.cfg.portOutShiftOffset = 0x02#8 ∧ base.cfg.portOutShiftData = 0x04#8 := by decide

theorem witness_port_steps :
    (start [0xDB, 0x03] base).ended = false ∧ (start [0xDB, 0x03] base).holdsInstr (.inp 0x03#8) ∧
    (start [0xD3, 0x04] base).holdsInstr (.out 0x04#8) ∧ (start [0x76] base).holdsInstr .hlt :=
  ⟨rfl, holds_of_code (by decide), holds_of_code (by decide), holds_of_code (by decide)⟩

/-- `raise` of the last good and the first bad vector, with IME 1 and 0. -/
theorem witness_raise :
    7 < 8 ∧ 7 ≤ 7 ∧ base.ime = false ∧ { base with ime := true }.ime = true ∧ base.mem.wf = true := by decide

/-- A tick that is delivered, one that is lost and one that faults. -/
theorem witness_tick :
    (∃ t, State.raise { base with ime := true, sp := 0x2400 } (1#3).toNat = .delivered t) ∧
    (∃ t, State.raise base (1#3).toNat = .lost t) ∧
    (∃ t, State.raise { base with ime := true } (1#3).toNat = .faulted t) ∧
    (1#3 = if base.altLast = base.cfg.vecA then base.cfg.vecB else base.cfg.vecA) :=
  ⟨⟨_, rfl⟩, ⟨_, rfl⟩, ⟨_, rfl⟩, rfl⟩

theorem witness_host :
    base.latch.wf = true ∧ base.cfg.videoBase ≤ (0x2400#16).toNat ∧ (0x3FFF#16).toNat < base.cfg.videoLimit ∧
    (0 : Nat) ≠ (0x01#8 : Byte).toNat := by decide

theorem witness_program_load :
    base.mem.wf = true ∧ base.cfg.loadOrigin + [0x76#8].length ≤ base.cfg.memSize ∧
    (let c := { base.cfg with loadOrigin := 0x4000 }; c.memSize < c.loadOrigin + [0x76#8].length) ∧
    [0x76#8][0]? = some 0x76#8 := by decide

/-- The last address below `MEM_SIZE`, the first at it, under both policies. -/
theorem witness_addresses :
    base.cfg.wf = true ∧ (0x3FFF#16).toNat < base.cfg.memSize ∧ base.cfg.memSize ≤ (0x4000#16).toNat ∧
    base.cfg.oobPolicy = .fault ∧ { base.cfg with oobPolicy := .wrap }.oobPolicy = .wrap ∧
    Config.wf { base.cfg with oobPolicy := .wrap } = true ∧ indexOf base.cfg 0x3FFF#16 = some 0x3FFF := by decide

/-- The three regions of the gate at their edges (X9). -/
theorem witness_gate_regions :
    base.mem.wf = true ∧ indexOf base.cfg 0x1FFF#16 = some 0x1FFF ∧ 0x1FFF < base.cfg.protectLimit ∧
    ¬ 0x2000 < base.cfg.protectLimit ∧ ¬ base.cfg.videoBase ≤ 0x23FF ∧ base.cfg.videoBase ≤ 0x2400 ∧
    0x3FFF < base.cfg.videoLimit := by decide

/-- `FlagsWrittenByTable`, `ControlStateWriters`, `OnlyStoresTouchMemory` and `PcAdvancesByLength`: an instruction of each
clause answers a next state. -/
theorem witness_exec_next :
    (∃ t, exec (.alu .ana (.reg .b)) base = .next t ∧ t.fault = none) ∧ (∃ t, exec (.aluImm .xra 0#8) base = .next t) ∧
    (∃ t, exec (.inr .mem) base = .next t) ∧ (∃ t, exec (.dad .sp) base = .next t) ∧ (∃ t, exec .cmc base = .next t) ∧
    (∃ t, exec .popPsw base = .next t) :=
  ⟨⟨_, rfl, rfl⟩, ⟨_, rfl⟩, ⟨_, rfl⟩, ⟨_, rfl⟩, ⟨_, rfl⟩, ⟨_, rfl⟩⟩

theorem witness_not_storing : (∃ t, exec .nop base = .next t) ∧ ¬ storesToMemory .nop ∧ ¬ transfersControl .nop := by
  refine ⟨⟨_, rfl⟩, ?_, ?_⟩
  · rintro (⟨r, h⟩ | ⟨v, h⟩ | ⟨r, h⟩ | ⟨a, h⟩ | ⟨a, h⟩ | ⟨rr, h⟩ | h | h | h | ⟨a, h⟩ | ⟨cc, a, h⟩ | ⟨n, h⟩)
    · cases r <;> cases h
    · cases h
    · cases r <;> cases h
    · cases h
    · cases h
    · cases rr <;> cases h
    · cases h
    · cases h
    · cases h
    · cases h
    · cases cc <;> cases h
    · unfold Instr.rst at h; split at h <;> cases h
  · rintro (⟨cc, h⟩ | h | ⟨cc, a, h⟩ | ⟨a, h⟩ | ⟨cc, a, h⟩ | ⟨a, h⟩ | ⟨n, h⟩ | h)
    · cases cc <;> cases h
    · cases h
    · cases cc <;> cases h
    · cases h
    · cases cc <;> cases h
    · cases h
    · unfold Instr.rst at h; split at h <;> cases h
    · cases h

theorem witness_no_fault : base.fault = none := rfl

/-- A step that sets AC, from a state that meets the invariant. -/
theorem witness_pop_psw_step :
    (let s := start [0xF1] { base with sp := 0x23FE, mem := [(0x23FE, 0xFF#8)] };
      s.wf = true ∧ ∃ t, step s = .next t ∧ t.flags.ac ≠ s.flags.ac) := ⟨by decide, _, rfl, by decide⟩

/-- A step whose store the gate drops, at the last protected byte. -/
theorem witness_protected_step :
    (let s := start [0x32, 0xFF, 0x1F] { base with regs.a := 0x55 };
      s.wf = true ∧ (∃ t, step s = .next t) ∧ 0x1FFF < s.cfg.protectLimit) := ⟨by decide, ⟨_, rfl⟩, by decide⟩

/-- A step that changes a byte of the video window, at each of its edges, with a turn of the host that does not clear
`dirty`. -/
theorem witness_video_step :
    (let s := start [0x32, 0x00, 0x24] { base with regs.a := 0x55, timeline := [⟨[], false⟩] };
      (∀ turn, s.timeline.head? = some turn → turn.clearDirty = false) ∧ s.cfg.videoBase ≤ 0x2400 ∧
        ∃ t, step s = .next t ∧ t.mem.read 0x2400 ≠ s.mem.read 0x2400) ∧
    (let s := start [0x32, 0xFF, 0x3F] { base with regs.a := 0x55, dirty := true };
      (∀ turn, s.timeline.head? = some turn → turn.clearDirty = false) ∧ 0x3FFF < s.cfg.videoLimit ∧ s.dirty = true ∧
        ∃ t, step s = .next t ∧ t.mem.read 0x3FFF ≠ s.mem.read 0x3FFF) :=
  ⟨⟨by rintro turn ⟨⟩; rfl, by decide, _, rfl, by decide⟩, ⟨by rintro turn ⟨⟩, by decide, rfl, _, rfl, by decide⟩⟩

/-- A step in which an event changes a latch. -/
theorem witness_latch_step :
    (let s := start [0x00] { base with timeline := [⟨[.latch 0x01 0x55], false⟩] };
      ∃ t, step s = .next t ∧ t.latch.read 1 ≠ s.latch.read 1) := ⟨_, rfl, by decide⟩

end Sys2Proof.Tests
end

section
/-! Proofs of the state's statements: registers and pairs are one storage (spec/10_state.md R20, R21), the flags byte
(R29, R30) and the reset values (R42). -/

namespace Sys2Proof

/-- A joined word by its number (R11). -/
theorem Word.join_eq_ofNat (h l : Byte) : Word.join h l = BitVec.ofNat 16 (256 * h.toNat + l.toNat) := by
  rw [← Word.toNat_join, BitVec.ofNat_toNat, BitVec.setWidth_eq]

end Sys2Proof

namespace Sys2Proof.Machine

/-! ### Registers and pairs -/

/-- A register write changes the register it names and no other (R20). -/
theorem Regs.get_set (x : Regs) (r q : Reg) (y : Byte) :
    (x.set r y).get q = if q = r then y else x.get q := by
  cases r <;> cases q <;> rfl

@[simp] theorem Regs.get_set_self (x : Regs) (r : Reg) (y : Byte) : (x.set r y).get r = y := by
  rw [Regs.get_set, if_pos rfl]

theorem Regs.get_set_of_ne (x : Regs) {r q : Reg} (y : Byte) (h : q ≠ r) : (x.set r y).get q = x.get q := by
  rw [Regs.get_set, if_neg h]

/-- A pair write changes the pair it names, whose halves rejoin to the word, and no other: no two pairs share a
register (R21). -/
theorem State.pair_setPair (s : State) (rr q : RegPair) (v : Word) :
    (s.setPair rr v).pair q = if q = rr then v else s.pair q := by
  cases rr <;> cases q <;>
    simp [State.pair, State.setPair, Regs.bc, Regs.de, Regs.hl, Regs.setBc, Regs.setDe, Regs.setHl]

@[simp] theorem State.pair_setPair_self (s : State) (rr : RegPair) (v : Word) : (s.setPair rr v).pair rr = v := by
  rw [State.pair_setPair, if_pos rfl]

theorem State.pair_setPair_of_ne (s : State) {rr q : RegPair} (v : Word) (h : q ≠ rr) :
    (s.setPair rr v).pair q = s.pair q := by
  rw [State.pair_setPair, if_neg h]

/-- Settles O24: a register or pair reads back its own last write and keeps the others', and a pair is the join of its
two registers. -/
theorem pairsAreTheirRegisters : Obligations.PairsAreTheirRegisters := fun s rr v r y =>
  ⟨⟨rfl, rfl, rfl, rfl, rfl, rfl, rfl⟩, s.regs.get_set_self r y, fun _ => s.regs.get_set_of_ne y, rfl,
    Word.join_eq_ofNat _ _, Word.join_eq_ofNat _ _, Word.join_eq_ofNat _ _,
    s.pair_setPair_self rr v, fun _ => s.pair_setPair_of_ne v,
    ⟨Word.toNat_high v, Word.toNat_low v⟩, fun w => Word.join_eq_ofNat w s.regs.l⟩

/-! ### Reset -/

/-- Settles O46: each value of R42's table is the one `State.reset` holds, and the empty memory reads as zero. -/
theorem resetValues : Obligations.ResetValues :=
  ⟨rfl, rfl, rfl, rfl, rfl, Memory.read_nil, Memory.read_nil, rfl, rfl, rfl, rfl, rfl, rfl⟩

/-! ### The flags byte -/

/-- The flags byte as a number, by the places of R29. -/
theorem Flags.toNat_byte (f : Flags) :
    f.byte.toNat = 128 * f.s.toNat + 64 * f.z.toNat + 16 * f.ac.toNat + 4 * f.p.toNat + 2 + f.cy.toNat := by
  obtain ⟨s, z, ac, p, cy⟩ := f
  cases s <;> cases z <;> cases ac <;> cases p <;> cases cy <;> rfl

/-- Putting bit `n` of a byte in place `n` is masking the byte with that place. -/
theorem flagBit_getLsbD (v : Byte) (n : Nat) : flagBit (v.getLsbD n) n = v &&& BitVec.twoPow 8 n :=
  (BitVec.and_twoPow v n).symm

/-- Packing what a byte unpacks to keeps the five flag places and sets the reserved ones (R29, R30). -/
theorem Flags.byte_ofByte (v : Byte) : (Flags.ofByte v).byte = (v &&& 0xD5#8) ||| 0x02#8 := by
  simp only [Flags.byte, Flags.ofByte, flagBit_getLsbD]
  rw [BitVec.or_assoc, BitVec.or_comm 0x02#8, ← BitVec.or_assoc]
  simp only [← BitVec.and_or_distrib_left]
  rfl

/-- Settles O49: the layout place by place, and both directions of packing and unpacking. -/
theorem flagsByteLayout : Obligations.FlagsByteLayout := fun f v =>
  ⟨f.toNat_byte, f.ofByte_byte, rfl, Flags.byte_ofByte v⟩

end Sys2Proof.Machine
end

section
/-! Proofs of the memory's statements: the write-protect gate (spec/20_memory.md R44, R46, R47). -/

namespace Sys2Proof.Machine

/-- A byte write in range is done and is the gated write of R46 and R47. -/
theorem storeByte_gateWrote {s : State} {a : Addr} {v : Byte} (hm : s.mem.wf = true) (h : indexOf s.cfg a ≠ none) :
    ∃ t, s.storeByte a v = .done t ∧ s.gateWrote t a v := by
  obtain ⟨i, hi⟩ := Option.ne_none_iff_exists'.mp h
  exact ⟨s.gate i a v, storeByte_of_index hi, gate_gateWrote hm hi⟩

/-- Settles O48: an address with an index is written at that index through the gate; one without is out of range, with
the state as it was. -/
theorem gateOutcomes : Obligations.GateOutcomes := fun _ _ _ hm =>
  ⟨storeByte_gateWrote hm, storeByte_of_no_index⟩

end Sys2Proof.Machine
end

section
/-! Proofs of the data transfer's statements (spec/40_data_transfer.md R82-R94), after the facts they share: fetches
that are out of range (R151, R154), instructions of one memory access, and the encodings of formats R, D2 and P3
(R68). -/

namespace Sys2Proof

/-- The low byte of a word is the word cut to 8 bits (R11). -/
theorem Word.low_eq_setWidth (v : Word) : Word.low v = v.setWidth 8 := by
  apply BitVec.eq_of_toNat_eq
  rw [Word.toNat_low, BitVec.toNat_setWidth]

/-- The high byte of a word is the word moved down 8 places and cut to 8 bits (R11). -/
theorem Word.high_eq_setWidth (v : Word) : Word.high v = (v >>> 8).setWidth 8 := by
  apply BitVec.eq_of_toNat_eq
  rw [Word.toNat_high, BitVec.toNat_setWidth, BitVec.toNat_ushiftRight, Nat.shiftRight_eq_div_pow]
  omega

end Sys2Proof

namespace Sys2Proof.Machine

/-! ### Fetches out of range -/

/-- The opcode is the encoding's first byte. -/
theorem opcode_of_encode {i : Instr} {op : Byte} {rest : List Byte} (h : encode i = op :: rest) : i.opcode = op := by
  rw [Instr.opcode, h, List.headD_cons]

@[simp] theorem advance_zero (s : State) : s.advance 0 = s := by
  simp [State.advance]

theorem advance_one_advance_one (s : State) : (s.advance 1).advance 1 = s.advance 2 := by
  simp [State.advance, pc_add_one_add_one]

/-- A fetch of a byte that stands `n` places after PC goes on with it. -/
theorem fetchByte_advance_of_holds {s : State} {i : Instr} {n m : Nat} {v : Byte} {op : Option Byte}
    (h : s.holdsPrefix i m) (hn : n < m) (hv : (encode i)[n]? = some v) (f : Byte → State → Fetched) :
    (s.advance n).fetchByte op f = f v ((s.advance n).advance 1) :=
  fetchByte_of_peek ((peek_of_holds h hn).trans hv) f

/-- A fetch out of range `n` places after PC faults at that address, and the PC advances before it stand (R154). -/
theorem fetchByte_advance_of_no_index {s : State} {n : Nat} {op : Option Byte}
    (h : indexOf s.cfg (s.pc + BitVec.ofNat 16 n) = none) (f : Byte → State → Fetched) :
    (s.advance n).fetchByte op f =
      .trapped ((s.advance n).takeFault .outOfRange (s.pc + BitVec.ofNat 16 n) op) :=
  fetchByte_of_no_peek (peek_of_no_index h) f

/-- Where the first `k` bytes of an instruction stand at PC and the next address is out of range, the fetch faults
there; the record holds the opcode once it has been fetched (R151). -/
theorem fetch_of_holdsPrefix {s : State} {i : Instr} {k : Nat} (hk : k < i.length) (hp : s.holdsPrefix i k)
    (hi : indexOf s.cfg (s.pc + BitVec.ofNat 16 k) = none) :
    s.fetch = .trapped ((s.advance k).takeFault .outOfRange (s.pc + BitVec.ofNat 16 k)
      (if k = 0 then none else some i.opcode)) := by
  cases k with
  | zero =>
    rw [State.fetch]
    simpa using fetchByte_advance_of_no_index hi (op := none) _
  | succ k =>
    have opcode_fetched {op : Byte} {rest : List Byte} (e : encode i = op :: rest) (f : Byte → State → Fetched) :
        s.fetchByte none f = f op (s.advance 1) := by
      simpa using fetchByte_advance_of_holds hp k.succ_pos (by rw [e]; rfl) f (op := none)
    rcases head_of_encoding i with ⟨op, e, hd⟩ | ⟨op, v, f, e, hd, -⟩ | ⟨op, w, f, e, hd, -⟩
    · simp [Instr.length, e] at hk
    · obtain rfl : k = 0 := by simpa [Instr.length, e] using hk
      rw [State.fetch, opcode_fetched e, hd, opcode_of_encode e]
      exact fetchByte_advance_of_no_index hi _
    · rw [State.fetch, opcode_fetched e, hd, opcode_of_encode e]
      obtain rfl | rfl : k = 0 ∨ k = 1 := by
        rw [Instr.length, e, List.length_cons, List.length_cons, List.length_singleton] at hk
        omega
      · exact fetchByte_advance_of_no_index hi _
      · dsimp only
        rw [fetchByte_advance_of_holds hp one_lt_two (by rw [e]; rfl), advance_one_advance_one]
        exact fetchByte_advance_of_no_index hi _

/-- A fetch out of range ends the run, so the host takes no turn: the step is the fetch's fault. -/
theorem step_of_trapped {s t : State} (hs : s.ended = false) (hf : s.fetch = .trapped t) (ht : t.ended = true) :
    step s = .next t := by
  simp [step, blockStep, hs, hf, hostTurn_of_ended ht]

/-- Every instruction's fetches out of range fault as R151, R154 and R156 say. -/
theorem fetchFaults_of_instr (i : Instr) : fetchFaults i := fun _ _ hs hk hp hi =>
  step_of_trapped hs (fetch_of_holdsPrefix hk hp hi) (by simp [State.ended])

/-! ### Instructions of one memory access -/

section
variable {i : Instr} {body : State → Access} {s t : State} {a : Addr} {v op : Byte} {n : Nat}

theorem perform_of_done (hn : i.length = n) (h : body (s.advance n) = .done t) : perform i body s = .next t := by
  rw [perform, hn, h, settle_done]

/-- An access out of range takes its fault with the opcode in the record (R151, R154). -/
theorem perform_of_outOfRange (hn : i.length = n) (ho : i.opcode = op) (h : body (s.advance n) = .outOfRange t a) :
    perform i body s = .next (t.takeFault .outOfRange a (some op)) := by
  rw [perform, hn, ho, h, settle_outOfRange]

/-- An instruction that reads a byte and is done with it, in range (R45). -/
theorem perform_loadByte_of_index {k : Nat} {f : Byte → State} (hn : i.length = n)
    (hb : body (s.advance n) = (s.advance n).loadByte a fun v => .done (f v)) (h : indexOf s.cfg a = some k) :
    perform i body s = .next (f (s.mem.read k)) :=
  perform_of_done hn (hb.trans (loadByte_of_index (s := s.advance n) h _))

/-- An instruction that begins with a byte read, out of range (R45). -/
theorem perform_loadByte_of_no_index {f : Byte → Access} (hn : i.length = n) (ho : i.opcode = op)
    (hb : body (s.advance n) = (s.advance n).loadByte a f) (h : indexOf s.cfg a = none) :
    ∃ t, perform i body s = .next t ∧ (s.advance n).outOfRangeAt t a (some op) :=
  ⟨_, perform_of_outOfRange hn ho (hb.trans (loadByte_of_no_index (s := s.advance n) h _)), rfl⟩

/-- An instruction that is a byte write, in range (R46, R47). -/
theorem perform_storeByte_of_index (hm : s.mem.wf = true) (hn : i.length = n)
    (hb : body (s.advance n) = (s.advance n).storeByte a v) (h : indexOf s.cfg a ≠ none) :
    ∃ t, perform i body s = .next t ∧ (s.advance n).gateWrote t a v := by
  obtain ⟨t, ht, hw⟩ := storeByte_gateWrote (s := s.advance n) (v := v) hm h
  exact ⟨t, perform_of_done hn (hb.trans ht), hw⟩

/-- An instruction that begins with a byte write, out of range. -/
theorem perform_storeByte_of_no_index (hn : i.length = n) (ho : i.opcode = op)
    (hb : body (s.advance n) = (s.advance n).storeByte a v) (h : indexOf s.cfg a = none) :
    ∃ t, perform i body s = .next t ∧ (s.advance n).outOfRangeAt t a (some op) :=
  ⟨_, perform_of_outOfRange hn ho (hb.trans (storeByte_of_no_index (s := s.advance n) h)), rfl⟩

end

/-! ### Direct transfers of HL -/

/-- Settles O18: SHLD is one gated word write, so a fault at its second byte comes after the first byte's write. -/
theorem storeHlDirect : Obligations.StoreHlDirect := by
  intro s a hm
  refine ⟨?_, fun h h' => ?_, fun h => ?_, fetchFaults_of_instr _⟩
  · rw [← Word.low_eq_setWidth, ← Word.high_eq_setWidth]; rfl
  · obtain ⟨t, ht, hw⟩ := storeWord_done (s := s.advance 3) (w := s.regs.hl) hm h h'
    exact ⟨t, perform_of_done (body := storeHl a) rfl ht, hw⟩
  · obtain ⟨t, c, ht, hw⟩ := storeWord_outOfRange (s := s.advance 3) (w := s.regs.hl) hm (some 0x22#8) h
    exact ⟨_, perform_of_outOfRange (body := storeHl a) rfl rfl ht, hw⟩

/-! ### Moves -/

/-- Format R (R68): the two slots in bits 5..3 and 2..0. -/
theorem encode_mov (d r : Slot) :
    encode (.mov d r) = [BitVec.ofNat 8 (0x40 + 8 * slotNumber d + slotNumber r)] := by
  rcases d with (_ | _ | _ | _ | _ | _ | _) | _ <;> rcases r with (_ | _ | _ | _ | _ | _ | _) | _ <;> rfl

theorem length_mov (d r : Slot) : (Instr.mov d r).length = 1 := by
  rw [Instr.length, encode_mov, List.length_singleton]

theorem encode_mov_reg_mem (r : Reg) : encode (.mov (.reg r) .mem) = [BitVec.ofNat 8 (0x46 + 8 * regNumber r)] := by
  rw [encode_mov, Nat.add_right_comm]; rfl

theorem encode_mov_mem_reg (r : Reg) : encode (.mov .mem (.reg r)) = [BitVec.ofNat 8 (0x70 + regNumber r)] :=
  encode_mov _ _

/-- Settles O10: neither instruction accesses memory, so both are done. -/
theorem nopAndRegisterMoves : Obligations.NopAndRegisterMoves := fun _ _ _ =>
  ⟨rfl, rfl, encode_mov _ _, (exec_mov _ _ _ (by simp)).trans (perform_of_done (length_mov _ _) rfl)⟩

/-- Settles O11: MOV r,M is one byte read at HL. -/
theorem moveFromMemory : Obligations.MoveFromMemory := by
  intro s dst
  rw [exec_mov _ _ _ (by simp)]
  exact ⟨encode_mov_reg_mem dst,
    fun _ => perform_loadByte_of_index (f := (s.advance 1).setReg dst) (length_mov _ _) rfl,
    perform_loadByte_of_no_index (length_mov _ _) (opcode_of_encode (encode_mov_reg_mem dst)) rfl⟩

/-- Settles O12: MOV M,r is one gated byte write at HL. -/
theorem moveToMemory : Obligations.MoveToMemory := by
  intro s r hm
  rw [exec_mov _ _ _ (by simp)]
  exact ⟨encode_mov_mem_reg r, perform_storeByte_of_index hm (length_mov _ _) rfl,
    perform_storeByte_of_no_index (length_mov _ _) (opcode_of_encode (encode_mov_mem_reg r)) rfl⟩

/-! ### Immediates -/

/-- Format D2 (R68): the slot in bits 5..3, then the operand byte. -/
theorem encode_mvi (d : Slot) (v : Byte) : encode (.mvi d v) = [BitVec.ofNat 8 (0x06 + 8 * slotNumber d), v] := by
  rcases d with (_ | _ | _ | _ | _ | _ | _) | _ <;> rfl

theorem length_mvi (d : Slot) (v : Byte) : (Instr.mvi d v).length = 2 := by
  rw [Instr.length, encode_mvi]; rfl

/-- Settles O13: MVI r is done once its operand is fetched, MVI M is one gated byte write at HL. -/
theorem moveImmediate : Obligations.MoveImmediate := fun _ _ _ hm =>
  ⟨encode_mvi _ _, (exec_mvi _ _ _).trans (perform_of_done (length_mvi _ _) rfl), rfl,
    perform_storeByte_of_index hm rfl rfl, perform_storeByte_of_no_index rfl rfl rfl,
    fetchFaults_of_instr _, fetchFaults_of_instr _⟩

/-- Format P3 (R68): the pair in bits 5..4, then the operand word, low byte first (R75). -/
theorem encode_lxi (rr : RegPair) (v : Word) :
    encode (.lxi rr v) = [BitVec.ofNat 8 (0x01 + 16 * pairNumber rr), Word.low v, Word.high v] := by
  cases rr <;> rfl

/-- Settles O14: each LXI is done once its operand word is fetched. -/
theorem loadPairImmediate : Obligations.LoadPairImmediate := by
  intro s v rr
  rw [← Word.low_eq_setWidth, ← Word.high_eq_setWidth]
  exact ⟨encode_lxi rr v, rfl, rfl, rfl, rfl, fetchFaults_of_instr _⟩

/-! ### Transfers of the accumulator -/

/-- LDAX B, LDAX D and LDA are one read into A, at the address of each (R89, R91). -/
theorem exec_loadA {s : State} {i : Instr} {a : Addr} {n : Nat}
    (h : (i = .ldaxB ∧ a = s.regs.b ++ s.regs.c ∧ n = 1) ∨ (i = .ldaxD ∧ a = s.regs.d ++ s.regs.e ∧ n = 1) ∨
      (i = .lda a ∧ n = 3)) : exec i s = perform i (loadA a) s ∧ i.length = n := by
  obtain ⟨rfl, rfl, rfl⟩ | ⟨rfl, rfl, rfl⟩ | ⟨rfl, rfl⟩ := h <;> exact ⟨rfl, rfl⟩

/-- STAX B, STAX D and STA are one write of A, at the address of each (R90, R92). -/
theorem exec_storeA {s : State} {i : Instr} {a : Addr} {n : Nat}
    (h : (i = .staxB ∧ a = s.regs.b ++ s.regs.c ∧ n = 1) ∨ (i = .staxD ∧ a = s.regs.d ++ s.regs.e ∧ n = 1) ∨
      (i = .sta a ∧ n = 3)) : exec i s = perform i (storeA a) s ∧ i.length = n := by
  obtain ⟨rfl, rfl, rfl⟩ | ⟨rfl, rfl, rfl⟩ | ⟨rfl, rfl⟩ := h <;> exact ⟨rfl, rfl⟩

/-- Settles O15: each form is one byte read at its address. -/
theorem loadAccumulator : Obligations.LoadAccumulator := by
  intro s i a len h
  obtain ⟨hx, hl⟩ := exec_loadA h
  rw [← Word.low_eq_setWidth, ← Word.high_eq_setWidth, hx]
  exact ⟨rfl, rfl, rfl, fun _ => perform_loadByte_of_index (f := (s.advance len).setReg .a) hl rfl,
    perform_loadByte_of_no_index hl rfl rfl, fetchFaults_of_instr i⟩

/-- Settles O16: each form is one gated byte write of A at its address. -/
theorem storeAccumulator : Obligations.StoreAccumulator := by
  intro s i a len hm h
  obtain ⟨hx, hl⟩ := exec_storeA h
  rw [← Word.low_eq_setWidth, ← Word.high_eq_setWidth, hx]
  exact ⟨rfl, rfl, rfl, perform_storeByte_of_index hm hl rfl, perform_storeByte_of_no_index hl rfl rfl,
    fetchFaults_of_instr i⟩

end Sys2Proof.Machine
end

section
/-! Proofs of the stack's and the exchanges' statements (spec/41_stack_exchange.md R95, R98, R99, R102, R104). -/

namespace Sys2Proof.Machine

/-! ### Pushes -/

/-- Format S (R68): the pair in bits 5..4 of `11 rr 0101`. -/
theorem encode_push (rr : StackPair) : encode (.push rr) = [BitVec.ofNat 8 (0xC5 + 16 * stackPairNumber rr)] := by
  cases rr <;> rfl

theorem length_push (rr : StackPair) : (Instr.push rr).length = 1 := by
  rw [Instr.length, encode_push, List.length_singleton]

/-- Moving PC past the instruction leaves every pair that PUSH can name (R71). -/
@[simp] theorem stackPair_advance (s : State) (rr : StackPair) (n : Nat) :
    (s.advance n).stackPair rr = s.stackPair rr := by
  cases rr <;> rfl

/-- Settles O19: PUSH is one push of its pair, done after both gated writes, or stopped at the first byte that is out of
range. Under `wrap` the bytes go where R44's index says (log entry 17). -/
theorem pushStoresBelowStackPointer : Obligations.PushStoresBelowStackPointer := by
  intro s rr v hm hv
  have pushed : pushPair rr (s.advance 1) = (s.advance 1).push16 v := by
    rw [pushPair, stackPair_advance, hv]
    cases rr <;> rfl
  rw [exec_push]
  refine ⟨encode_push rr, fun h h' => ?_, fun h => ?_⟩
  · obtain ⟨t, ht, hw⟩ := push16_done (s := s.advance 1) (w := v) hm h h'
    exact ⟨t, perform_of_done (length_push rr) (pushed.trans ht), hw⟩
  · obtain ⟨t, c, ht, hw⟩ := push16_outOfRange (s := s.advance 1) (w := v) hm (some _) h
    exact ⟨_, perform_of_outOfRange (length_push rr) (opcode_of_encode (encode_push rr)) (pushed.trans ht), hw⟩

/-! ### Exchanges -/

/-- XCHG's two pair writes give each of the four registers the byte the other pair had (R102). -/
theorem exchangeDeHl_eq (s : State) : exchangeDeHl s =
    .done { s with regs := { s.regs with d := s.regs.h, e := s.regs.l, h := s.regs.d, l := s.regs.e } } := by
  simp [exchangeDeHl, Regs.setHl, Regs.setDe, Regs.hl, Regs.de]

/-- Settles O22: neither instruction accesses memory, so both are done. -/
theorem exchangeAndCopyPairs : Obligations.ExchangeAndCopyPairs := fun s =>
  ⟨rfl, rfl, perform_of_done rfl (exchangeDeHl_eq (s.advance 1)), perform_of_done (body := copyHlToSp) rfl rfl⟩

end Sys2Proof.Machine
end

section
/-! Proofs of the arithmetic and logic statements (spec/42_arith_logic.md R105-R134): the encodings of formats A, A2, D
and P (R68), the operations in natural numbers, and each instruction as one use of them. -/

namespace Sys2Proof.Machine

/-- An instruction encoded as its opcode alone is one byte long (R80). -/
theorem length_of_encode_singleton {i : Instr} {op : Byte} (h : encode i = [op]) : i.length = 1 := by
  rw [Instr.length, h, List.length_singleton]

/-! ### The ALU -/

/-- Format A (R68): the operation in bits 5..3 of `10 ooo sss`, the slot in bits 2..0. -/
theorem encode_alu (op : AluOp) (x : Slot) :
    encode (.alu op x) = [BitVec.ofNat 8 (0x80 + 8 * aluNumber op + slotNumber x)] := by
  cases op <;> rcases x with (_ | _ | _ | _ | _ | _ | _) | _ <;> rfl

theorem length_alu (op : AluOp) (x : Slot) : (Instr.alu op x).length = 1 :=
  length_of_encode_singleton (encode_alu op x)

theorem encode_alu_mem (op : AluOp) : encode (.alu op .mem) = [BitVec.ofNat 8 (0x86 + 8 * aluNumber op)] := by
  rw [encode_alu, Nat.add_right_comm]; rfl

/-- Format A2 (R68): the operation in bits 5..3 of `11 ooo 110`, then the operand byte. -/
theorem encode_aluImm (op : AluOp) (v : Byte) :
    encode (.aluImm op v) = [BitVec.ofNat 8 (0xC6 + 8 * aluNumber op), v] := by
  cases op <;> rfl

theorem length_aluImm (op : AluOp) (v : Byte) : (Instr.aluImm op v).length = 2 := by
  rw [Instr.length, encode_aluImm]; rfl

/-- The result of an ALU operation by its number (R109). -/
theorem aluResult_eq_ofNat (op : AluOp) (a v : Byte) (cy : Bool) :
    aluResult op a v cy = BitVec.ofNat 8 (aluNat op a.toNat v.toNat cy.toNat).1 := by
  rw [← aluResult_toNat, BitVec.ofNat_toNat, BitVec.setWidth_eq]

/-- The flags of an ALU operation in natural numbers; AC is the one before it (R28, R109). -/
theorem aluFlags_eq_flagsOf (sense : SubCySense) (op : AluOp) (a v : Byte) (f : Flags) :
    aluFlags sense op a v f = flagsOf (aluNat op a.toNat v.toNat f.cy.toNat).1
      (carryOf sense op (aluNat op a.toNat v.toNat f.cy.toNat).2) f.ac := by
  rw [aluFlags, Flags.szp_eq_flagsOf, aluResult_toNat, aluCarry_eq]; rfl

/-- An ALU operation after the PC has moved is the operation in natural numbers (R109). -/
theorem alu_advance (op : AluOp) (v : Byte) (s : State) (n : Nat) : alu op v (s.advance n) = s.afterAlu op v n := by
  simp only [alu, State.afterAlu, State.advance_regs, State.advance_flags, State.advance_cfg, aluResult_eq_ofNat,
    aluFlags_eq_flagsOf]
  rfl

/-- Settles O27: an operand in a register or at an index is one ALU operation; a byte read out of range is a fault. -/
theorem aluOnSlot : Obligations.AluOnSlot := by
  intro s op
  simp only [exec_alu]
  refine ⟨encode_alu op, fun r => ?_, fun k h => ?_,
    perform_loadByte_of_no_index (length_alu _ _) (opcode_of_encode (encode_alu_mem op)) rfl⟩
  · rw [← alu_advance]
    exact perform_of_done (length_alu _ _) rfl
  · rw [← alu_advance]
    exact perform_loadByte_of_index (f := fun v => alu op v (s.advance 1)) (length_alu _ _) rfl h

/-- Settles O28: once its operand is fetched, the instruction is one ALU operation on it. -/
theorem aluOnImmediate : Obligations.AluOnImmediate := by
  intro s op v
  rw [exec_aluImm, ← alu_advance]
  exact ⟨encode_aluImm op v, perform_of_done (length_aluImm op v) rfl, fetchFaults_of_instr _⟩

/-! ### INR and DCR -/

/-- Format D (R68): the slot in bits 5..3 of `00 ddd 100`. -/
theorem encode_inr (x : Slot) : encode (.inr x) = [BitVec.ofNat 8 (0x04 + 8 * slotNumber x)] := by
  rcases x with (_ | _ | _ | _ | _ | _ | _) | _ <;> rfl

/-- Format D (R68): the slot in bits 5..3 of `00 ddd 101`. -/
theorem encode_dcr (x : Slot) : encode (.dcr x) = [BitVec.ofNat 8 (0x05 + 8 * slotNumber x)] := by
  rcases x with (_ | _ | _ | _ | _ | _ | _) | _ <;> rfl

/-- The byte INR writes for the byte `v`, or DCR where `up` is false (R133, R134). -/
def countedByte (up : Bool) (v : Byte) : Byte := if up then v + 1 else v - 1

theorem countedByte_toNat (up : Bool) (v : Byte) :
    (countedByte up v).toNat = if up then (v.toNat + 1) % 256 else (v.toNat + 255) % 256 := by
  cases up
  · simp [countedByte, BitVec.toNat_sub, Nat.add_comm]
  · simp [countedByte]

/-- The two instructions are one: read the slot, write the counted byte and its S, Z and P. -/
theorem exec_inr_dcr (up : Bool) (x : Slot) (s : State) :
    exec (if up then .inr x else .dcr x) s = perform (if up then .inr x else .dcr x)
      (fun t => t.readSlot x fun v => writeSlotSzp x (countedByte up v) t) s := by
  cases up
  · exact exec_dcr x s
  · exact exec_inr x s

theorem length_inr_dcr (up : Bool) (x : Slot) : (if up then Instr.inr x else .dcr x).length = 1 := by
  cases up
  · exact length_of_encode_singleton (encode_dcr x)
  · exact length_of_encode_singleton (encode_inr x)

theorem opcode_inr_dcr_mem (up : Bool) :
    (if up then Instr.inr .mem else .dcr .mem).opcode = if up then 0x34#8 else 0x35#8 := by
  cases up <;> rfl

/-- Settles O31: the flags come from the counted byte, after the register's write or the gate's. -/
theorem incrementDecrementSlot : Obligations.IncrementDecrementSlot := by
  intro s up old new hm hnew
  have counted {v : Byte} (hv : v.toNat = old) : new = (countedByte up v).toNat := by
    rw [countedByte_toNat, hv, hnew]
  simp only [exec_inr_dcr]
  refine ⟨fun x => ⟨encode_inr x, encode_dcr x⟩, fun r hr => ?_, fun k hk hv => ?_, fun h => ?_⟩
  · rw [counted hr, BitVec.ofNat_toNat, BitVec.setWidth_eq, ← Flags.szp_eq_flagsOf]
    exact perform_of_done (length_inr_dcr up _) rfl
  · have hk' : indexOf (s.advance 1).cfg (s.advance 1).regs.hl = some k := hk
    rw [counted hv, BitVec.ofNat_toNat, BitVec.setWidth_eq, ← Flags.szp_eq_flagsOf]
    refine ⟨_, _, perform_of_done (length_inr_dcr up _) ?_, gate_gateWrote (s := s.advance 1) hm hk, rfl⟩
    dsimp only [State.readSlot, writeSlotSzp, State.writeSlot]
    rw [loadByte_of_index hk', storeByte_of_index hk', andThen_done, State.gate_flags]
    rfl
  · exact perform_loadByte_of_no_index (length_inr_dcr up _) (opcode_inr_dcr_mem up) rfl h

/-! ### Pairs -/

/-- Format P (R68): the pair in bits 5..4 of `00 rr 0011`. -/
theorem encode_inx (rr : RegPair) : encode (.inx rr) = [BitVec.ofNat 8 (0x03 + 16 * pairNumber rr)] := by
  cases rr <;> rfl

/-- Format P (R68): the pair in bits 5..4 of `00 rr 1011`. -/
theorem encode_dcx (rr : RegPair) : encode (.dcx rr) = [BitVec.ofNat 8 (0x0B + 16 * pairNumber rr)] := by
  cases rr <;> rfl

/-- Format P (R68): the pair in bits 5..4 of `00 rr 1001`. -/
theorem encode_dad (rr : RegPair) : encode (.dad rr) = [BitVec.ofNat 8 (0x09 + 16 * pairNumber rr)] := by
  cases rr <;> rfl

/-- Moving PC past the instruction leaves every pair (R70). -/
@[simp] theorem pair_advance (s : State) (rr : RegPair) (n : Nat) : (s.advance n).pair rr = s.pair rr := by
  cases rr <;> rfl

/-- Settles O25: each is one pair write, of the pair plus 1 or plus 65535 modulo 2^16. -/
theorem incrementDecrementPair : Obligations.IncrementDecrementPair := by
  intro s rr
  have up : BitVec.ofNat 16 ((s.pair rr).toNat + 1) = s.pair rr + 1 := by bv_omega
  have down : BitVec.ofNat 16 ((s.pair rr).toNat + 0xFFFF) = s.pair rr - 1 := by bv_omega
  rw [exec_inx, exec_dcx, up, down]
  refine ⟨encode_inx rr, encode_dcx rr, perform_of_done (length_of_encode_singleton (encode_inx rr)) ?_,
    perform_of_done (length_of_encode_singleton (encode_dcx rr)) ?_⟩
  · rw [incrementPair, pair_advance]; rfl
  · rw [decrementPair, pair_advance]; rfl

/-- The low 16 bits of DAD's intermediate are the sum modulo 2^16 (R108). -/
theorem dadWide_setWidth (x y : Word) : (dadWide x y).setWidth 16 = BitVec.ofNat 16 (x.toNat + y.toNat) := by
  apply BitVec.eq_of_toNat_eq
  simp [dadWide]

/-- Bit 16 of DAD's intermediate is whether the sum exceeds 65535 (R108). -/
theorem dadWide_getLsbD (x y : Word) : (dadWide x y).getLsbD 16 = decide (65535 < x.toNat + y.toNat) := by
  have hx := x.isLt
  have hy := y.isLt
  simp only [dadWide, BitVec.getLsbD, Nat.testBit_eq_decide_div_mod_eq, BitVec.toNat_add, BitVec.toNat_setWidth]
  rw [decide_eq_decide]
  omega

/-- Settles O26: HL is the sum's low 16 bits and CY the bit above them. -/
theorem doubleAdd : Obligations.DoubleAdd := by
  rintro s rr n rfl
  rw [exec_dad, ← dadWide_setWidth, ← dadWide_getLsbD]
  refine ⟨encode_dad rr, perform_of_done (length_of_encode_singleton (encode_dad rr)) ?_⟩
  rw [addToHl, pair_advance]; rfl

/-! ### Rotates, complements and the carry -/

/-- Setting a free bit of a byte is an addition. -/
theorem or_flagBit_of_free {x : Byte} {n : Nat} (h : x.getLsbD n = false) (b : Bool) :
    x ||| flagBit b n = x + flagBit b n := by
  refine (BitVec.add_eq_or_of_and_eq_zero _ _ ?_).symm
  cases b with
  | false => exact BitVec.and_zero
  | true => exact (BitVec.and_twoPow x n).trans (by rw [h]; rfl)

/-- A left rotate brings `b` into the free bit 0 (R126, R128). -/
theorem shiftLeft_or_flagBit (a : Byte) (b : Bool) :
    a <<< 1 ||| flagBit b 0 = BitVec.ofNat 8 (2 * a.toNat % 256 + b.toNat) := by
  have hb : (flagBit b 0).toNat = b.toNat := by cases b <;> rfl
  rw [or_flagBit_of_free (by simp)]
  apply BitVec.eq_of_toNat_eq
  simp only [BitVec.toNat_add, BitVec.toNat_shiftLeft, Nat.shiftLeft_eq, BitVec.toNat_ofNat, hb]
  omega

/-- A right rotate brings `b` into the free bit 7 (R127, R129). -/
theorem ushiftRight_or_flagBit (a : Byte) (b : Bool) :
    a >>> 1 ||| flagBit b 7 = BitVec.ofNat 8 (a.toNat / 2 + 128 * b.toNat) := by
  have hb : (flagBit b 7).toNat = 128 * b.toNat := by cases b <;> rfl
  rw [or_flagBit_of_free (by simp)]
  apply BitVec.eq_of_toNat_eq
  simp only [BitVec.toNat_add, BitVec.toNat_ushiftRight, Nat.shiftRight_eq_div_pow, BitVec.toNat_ofNat, hb]

/-- The bit that leaves A to the right, as CY. -/
theorem getLsbD_zero_eq_decide (a : Byte) : a.getLsbD 0 = decide (a.toNat % 2 = 1) := Nat.testBit_zero _

/-- The bit that leaves A to the left, as CY. -/
theorem getLsbD_seven_eq_decide (a : Byte) : a.getLsbD 7 = decide (128 ≤ a.toNat) := BitVec.msb_eq_decide a

theorem toNat_getLsbD_zero (a : Byte) : (a.getLsbD 0).toNat = a.toNat % 2 := by
  simp [BitVec.getLsbD, Nat.toNat_testBit, -Nat.testBit_zero]

theorem toNat_getLsbD_seven (a : Byte) : (a.getLsbD 7).toNat = a.toNat / 128 := by
  have ha := a.isLt
  rw [BitVec.getLsbD, Nat.toNat_testBit]
  omega

/-- Settles O29: each rotate is a shift that brings in the bit that leaves A, or CY for RAL and RAR. -/
theorem rotateAccumulator : Obligations.RotateAccumulator := by
  rintro s _ _ rfl rfl
  simp only [← getLsbD_seven_eq_decide, ← getLsbD_zero_eq_decide]
  simp only [← toNat_getLsbD_seven, ← toNat_getLsbD_zero, ← shiftLeft_or_flagBit, ← ushiftRight_or_flagBit]
  exact ⟨⟨rfl, rfl, rfl, rfl⟩, perform_of_done (body := rotateA .rlc) rfl rfl,
    perform_of_done (body := rotateA .rrc) rfl rfl, perform_of_done (body := rotateA .ral) rfl rfl,
    perform_of_done (body := rotateA .rar) rfl rfl⟩

/-- The complement of a byte is its distance to 255 (R130). -/
theorem not_eq_ofNat (a : Byte) : ~~~a = BitVec.ofNat 8 (255 - a.toNat) := by
  apply BitVec.eq_of_toNat_eq
  rw [BitVec.toNat_not, BitVec.toNat_ofNat]
  omega

/-- Settles O30: none of the three accesses memory, so each is done. -/
theorem complementAndCarryToggles : Obligations.ComplementAndCarryToggles := by
  intro s
  rw [← not_eq_ofNat]
  exact ⟨rfl, rfl, rfl, perform_of_done (body := complementA) rfl rfl,
    perform_of_done (body := complementCarry) rfl rfl, perform_of_done (body := setCarry) rfl rfl⟩

end Sys2Proof.Machine
end

section
/-! Proofs of the control transfer's statements (spec/43_control_transfer.md R139-R142): jumps and calls, each after its
conditional encoding of format C (R68). -/

namespace Sys2Proof.Machine

/-! ### Jumps -/

/-- Format C, conditional jump (R68): the condition in bits 5..3, then the target, low byte first (R75). -/
theorem encode_jcc (cc : Cond) (a : Addr) :
    encode (.jcc cc a) = [BitVec.ofNat 8 (0xC2 + 8 * condNumber cc), Word.low a, Word.high a] := by
  cases cc <;> rfl

theorem length_jcc (cc : Cond) (a : Addr) : (Instr.jcc cc a).length = 3 := by
  rw [Instr.length, encode_jcc]; rfl

/-- A conditional jump is done either way: it moves PC to the target, or leaves it (R139). -/
theorem jumpIf_eq (cc : Cond) (a : Addr) (s : State) :
    jumpIf cc a s = .done { s with pc := if s.flags.cond cc then a else s.pc } := by
  by_cases h : s.flags.cond cc
  · rw [jumpIf, if_pos h, if_pos h, jumpTo]
  · rw [jumpIf, if_neg h, if_neg h]

/-- Settles O33: no jump accesses memory, so each is done, with the PC its condition selects. -/
theorem jumps : Obligations.Jumps := by
  intro s cc a
  rw [← Word.low_eq_setWidth, ← Word.high_eq_setWidth, exec_jcc]
  exact ⟨encode_jcc cc a, rfl, perform_of_done (length_jcc cc a) (jumpIf_eq cc a (s.advance 3)),
    perform_of_done (body := jumpTo a) rfl rfl, fetchFaults_of_instr _, fetchFaults_of_instr _⟩

/-! ### Calls -/

/-- Format C, conditional call (R68): the condition in bits 5..3, then the target, low byte first (R75). -/
theorem encode_ccc (cc : Cond) (a : Addr) :
    encode (.ccc cc a) = [BitVec.ofNat 8 (0xC4 + 8 * condNumber cc), Word.low a, Word.high a] := by
  cases cc <;> rfl

theorem length_ccc (cc : Cond) (a : Addr) : (Instr.ccc cc a).length = 3 := by
  rw [Instr.length, encode_ccc]; rfl

section
variable {s : State} {i : Instr} {body : State → Access} {cc : Cond} {a : Addr} {n : Nat}

theorem callIf_of_not_taken (h : s.flags.cond cc = false) : callIf cc a s = .done s := by
  simp [callIf, h]

theorem callIf_of_taken (h : s.flags.cond cc = true) : callIf cc a s = s.enter a := by
  simp [callIf, callTo, h]

/-- CALL, and Ccc where its condition holds, enter the target from the state whose PC is past the instruction (R141,
R142). -/
theorem exec_call_of_taken (h : i = .call a ∨ (i = .ccc cc a ∧ s.flags.cond cc = true)) :
    ∃ body, exec i s = perform i body s ∧ i.length = 3 ∧ body (s.advance 3) = (s.advance 3).enter a := by
  obtain rfl | ⟨rfl, hc⟩ := h
  · exact ⟨callTo a, rfl, rfl, rfl⟩
  · exact ⟨callIf cc a, exec_ccc cc a s, length_ccc cc a, callIf_of_taken hc⟩

/-- An instruction that pushes the address after it and goes to a target, its stack bytes in range (R95). -/
theorem perform_enter_done (hm : s.mem.wf = true) (hn : i.length = n)
    (hb : body (s.advance n) = (s.advance n).enter a) (h : indexOf s.cfg (s.sp - 2) ≠ none)
    (h' : indexOf s.cfg (s.sp - 1) ≠ none) :
    ∃ t u, perform i body s = .next t ∧
      State.gateWroteWord { s.advance n with sp := s.sp - 2 } u (s.sp - 2) (s.advance n).pc ∧
      t = { u with pc := a } := by
  obtain ⟨u, hu, hw⟩ := enter_done (s := s.advance n) a hm h h'
  exact ⟨_, u, perform_of_done hn (hb.trans hu), hw, rfl⟩

/-- The same with a stack byte out of range: the push faults and PC stays past the instruction (R154). -/
theorem perform_enter_outOfRange (hm : s.mem.wf = true) (hn : i.length = n)
    (hb : body (s.advance n) = (s.advance n).enter a)
    (h : indexOf s.cfg (s.sp - 2) = none ∨ indexOf s.cfg (s.sp - 1) = none) :
    ∃ t, perform i body s = .next t ∧
      State.wordWriteFaulted { s.advance n with sp := s.sp - 2 } t (s.sp - 2) (s.advance n).pc (some i.opcode) := by
  obtain ⟨t, c, ht, hw⟩ := enter_outOfRange (s := s.advance n) a hm (some i.opcode) h
  exact ⟨_, perform_of_outOfRange hn rfl (hb.trans ht), hw⟩

end

/-- Settles O34: a Ccc not taken is done where it stands; CALL and a taken Ccc enter the target, done after both gated
writes, or stopped at the first stack byte that is out of range. Under `wrap` the pushed bytes go where R44's index says
(log entry 17). -/
theorem calls : Obligations.Calls := by
  intro s cc a hm
  rw [← Word.low_eq_setWidth, ← Word.high_eq_setWidth]
  refine ⟨encode_ccc cc a, rfl, fun hc => ?_, fun i hi => ?_, fetchFaults_of_instr _, fetchFaults_of_instr _⟩
  · exact (exec_ccc cc a s).trans
      (perform_of_done (length_ccc cc a) (callIf_of_not_taken (s := s.advance 3) hc))
  · obtain ⟨body, hx, hl, hb⟩ := exec_call_of_taken hi
    rw [hx]
    exact ⟨perform_enter_done hm hl hb, perform_enter_outOfRange hm hl hb⟩

end Sys2Proof.Machine
end

section
/-! Proofs of the encoding's statements (spec/30_encoding.md R67-R80): the decoder and the encoder are inverse to each
other, by the head of each opcode byte. -/

namespace Sys2Proof

/-! ### Decoding by the opcode's head -/

section
variable {op : Byte} {rest : List Byte}

theorem decode_of_bare {i : Instr} (h : decodeOpcode op = .bare i) : decode (op :: rest) = .ok (i, rest) := by
  simp only [decode, h]

theorem decode_of_byte {k : Byte → Instr} (h : decodeOpcode op = .byte k) (v : Byte) :
    decode (op :: v :: rest) = .ok (k v, rest) := by
  simp only [decode, h]

theorem decode_of_word {k : Word → Instr} (h : decodeOpcode op = .word k) (lo hi : Byte) :
    decode (op :: lo :: hi :: rest) = .ok (k (Word.join hi lo), rest) := by
  simp only [decode, h]

/-- With fewer bytes than the head asks for, an operand is missing. -/
theorem decode_of_short (h : rest.length < (decodeOpcode op).operands) :
    decode (op :: rest) = .error (.missingOperand op) := by
  cases hd : decodeOpcode op with
  | bare i => simp [hd, Head.operands] at h
  | byte k =>
    obtain rfl : rest = [] := by simpa [hd, Head.operands] using h
    simp only [decode, hd]
  | word k =>
    match rest, h with
    | [], _ => simp only [decode, hd]
    | [v], _ => simp only [decode, hd]
    | _ :: _ :: _, h => simp [hd, Head.operands] at h

end

/-- Settles O1: the head of the opcode byte asks for the operand bytes the encoding has, and makes the instruction of
them. -/
theorem decodeOfEncodeIsIdentity : Obligations.DecodeOfEncodeIsIdentity := by
  intro i rest
  rcases Machine.head_of_encoding i with ⟨op, e, hd⟩ | ⟨op, v, k, e, hd, rfl⟩ | ⟨op, w, k, e, hd, rfl⟩
  · rw [e]
    exact decode_of_bare hd
  · rw [e]
    exact decode_of_byte hd v
  · rw [e]
    exact (decode_of_word hd _ _).trans (by rw [Word.join_high_low]; rfl)

/-! ### The opcode's head by the encoder -/

/-- Whatever operand a head is given, the instruction it makes encodes as the opcode byte and that operand. -/
def Head.Encodes (h : Head) (op : Byte) : Prop :=
  ∀ (v : Byte) (w : Word),
    match h with
    | .bare i => encode i = [op]
    | .byte k => encode (k v) = [op, v]
    | .word k => encode (k w) = [op, w.low, w.high]

/-- The rows 0x00 to 0x3F, by the fields `y` and `z` (R68). -/
theorem decodeBlock0_encodes {op : Byte} {y z : Nat} (hy : y < 8) (hz : z < 8)
    (h : op = BitVec.ofNat 8 (64 * 0 + 8 * y + z)) : (decodeBlock0 y z).Encodes op := by
  subst h
  interval_cases z <;> interval_cases y <;> exact fun _ _ => rfl

/-- The rows 0xC0 to 0xFF, by the fields `y` and `z` (R68). -/
theorem decodeBlock3_encodes {op : Byte} {y z : Nat} (hy : y < 8) (hz : z < 8)
    (h : op = BitVec.ofNat 8 (64 * 3 + 8 * y + z)) : (decodeBlock3 y z).Encodes op := by
  subst h
  interval_cases z <;> interval_cases y <;> exact fun _ _ => rfl

theorem slotNumber_ofField {n : Nat} (h : n < 8) : Machine.slotNumber (.ofField n) = n := by
  interval_cases n <;> rfl

theorem aluNumber_ofField {n : Nat} (h : n < 8) : Machine.aluNumber (.ofField n) = n := by
  interval_cases n <;> rfl

/-- An opcode byte is its three fields (R67). -/
theorem Byte.eq_fields (op : Byte) : op = BitVec.ofNat 8 (64 * op.field 6 2 + 8 * op.field 3 3 + op.field 0 3) := by
  have h := op.isLt
  apply BitVec.eq_of_toNat_eq
  simp only [Byte.field, Nat.shiftRight_eq_div_pow, BitVec.toNat_ofNat]
  omega

/-- The head of an opcode byte, by its two top bits: MOV and the ALU by their formats, the other rows one by one. -/
theorem decodeOpcode_encodes (op : Byte) : (decodeOpcode op).Encodes op := by
  have hy : op.field 3 3 < 8 := Nat.mod_lt _ (by decide)
  have hz : op.field 0 3 < 8 := Nat.mod_lt _ (by decide)
  have hx : op.field 6 2 < 4 := Nat.mod_lt _ (by decide)
  have hop := op.eq_fields
  unfold decodeOpcode
  generalize op.field 6 2 = x at *
  interval_cases x
  · exact decodeBlock0_encodes hy hz hop
  · intro _ _
    show encode (.mov _ _) = [op]
    rw [Machine.encode_mov, slotNumber_ofField hy, slotNumber_ofField hz]
    exact congrArg (· :: []) hop.symm
  · intro _ _
    show encode (.alu _ _) = [op]
    rw [Machine.encode_alu, aluNumber_ofField hy, slotNumber_ofField hz]
    exact congrArg (· :: []) hop.symm
  · exact decodeBlock3_encodes hy hz hop

section
variable {op : Byte}

theorem encode_of_bare {i : Instr} (h : decodeOpcode op = .bare i) : encode i = [op] := by
  have := decodeOpcode_encodes op 0 0
  rwa [h] at this

theorem encode_of_byte {k : Byte → Instr} (h : decodeOpcode op = .byte k) (v : Byte) : encode (k v) = [op, v] := by
  have := decodeOpcode_encodes op v 0
  rwa [h] at this

theorem encode_of_word {k : Word → Instr} (h : decodeOpcode op = .word k) (w : Word) :
    encode (k w) = [op, w.low, w.high] := by
  have := decodeOpcode_encodes op 0 w
  rwa [h] at this

end

/-- What a list of bytes decodes to, by its opcode's head: the encoding of that instruction begins the list, and the
operand bytes after the opcode are those the head asks for. -/
theorem decode_eq_ok {op : Byte} {rest : List Byte} (h : (decodeOpcode op).operands ≤ rest.length) :
    ∃ i, decode (op :: rest) = .ok (i, rest.drop (decodeOpcode op).operands) ∧
      encode i = op :: rest.take (decodeOpcode op).operands := by
  cases hd : decodeOpcode op with
  | bare i => exact ⟨i, decode_of_bare hd, encode_of_bare hd⟩
  | byte k =>
    rw [hd] at h
    match rest, h with
    | v :: rest, _ => exact ⟨k v, decode_of_byte hd v, encode_of_byte hd v⟩
  | word k =>
    rw [hd] at h
    match rest, h with
    | [v], h => simp [Head.operands] at h
    | lo :: hi :: rest, _ =>
      exact ⟨k (Word.join hi lo), decode_of_word hd lo hi, by simp [encode_of_word hd, Head.operands]⟩

/-- Settles O2: a decoded list has the bytes its opcode's head asks for, and the instruction encodes as the opcode and
those bytes. -/
theorem decodedBytesAreTheEncoding : Obligations.DecodedBytesAreTheEncoding := by
  intro bytes i rest h
  cases bytes with
  | nil => cases h
  | cons op tail =>
    by_cases hl : (decodeOpcode op).operands ≤ tail.length
    · obtain ⟨j, hj, e⟩ := decode_eq_ok hl
      obtain ⟨rfl, rfl⟩ : j = i ∧ _ = rest := by simpa [hj] using h
      rw [e, List.cons_append, List.take_append_drop]
    · rw [decode_of_short (not_le.mp hl)] at h
      cases h

/-! ### Lengths -/

/-- The table of lengths of R80 counts the opcode and the operand bytes its head asks for. -/
theorem operands_eq_table : ∀ op : Byte,
    (if op ∈ [0x01#8, 0x11#8, 0x21#8, 0x31#8, 0x22#8, 0x2A#8, 0x32#8, 0x3A#8, 0xC3#8, 0xCD#8] ∨
        (op.toNat / 64 = 3 ∧ (op.toNat % 8 = 2 ∨ op.toNat % 8 = 4)) then 3
      else if (op.toNat / 64 = 0 ∧ op.toNat % 8 = 6) ∨ (op.toNat / 64 = 3 ∧ op.toNat % 8 = 6) ∨
        op = 0xD3#8 ∨ op = 0xDB#8 then 2
      else 1) = (decodeOpcode op).operands + 1 := by
  decide

/-- Settles O3: the head of the opcode byte asks for the operand bytes of R80's table, and decoding succeeds exactly
where they are all there. -/
theorem opcodeByteFixesLength : Obligations.OpcodeByteFixesLength := by
  rintro op rest n rfl
  rw [operands_eq_table, Nat.add_sub_cancel]
  refine ⟨fun h => ?_, fun h => decode_of_short (by omega)⟩
  have hl : (decodeOpcode op).operands ≤ rest.length := by omega
  obtain ⟨i, hi, e⟩ := decode_eq_ok hl
  refine ⟨i, hi, ?_, Machine.opcode_of_encode e⟩
  rw [Instr.length, e, List.length_cons, List.length_take, Nat.min_eq_left hl]

/-- Settles O4: each word decodes by evaluation. -/
theorem specWordsDecode : Obligations.SpecWordsDecode := by
  exact ⟨rfl, rfl, rfl, rfl, rfl, rfl, rfl, rfl, rfl, rfl, rfl, rfl, rfl, rfl, rfl, rfl, rfl, rfl⟩

end Sys2Proof
end

section
/-! Proofs of the step's statements (spec/60_exceptions.md R150-R156, R163): the step of an instruction that stands at
PC, its end after a fault, the order of the host's events, and the opcode values that are no instruction
(spec/30_encoding.md R78). -/

namespace Sys2Proof.Machine

/-! ### The step of an instruction that stands at PC -/

section
variable {s t : State} {i : Instr}

theorem blockStep_of_holdsInstr (hs : s.ended = false) (hi : s.holdsInstr i) : blockStep s = exec i s := by
  simp [blockStep, hs, fetch_of_holdsInstr hi]

theorem step_of_holdsInstr (hs : s.ended = false) (hi : s.holdsInstr i) (hx : exec i s = .next t) :
    step s = .next t.hostTurn := by
  simp only [step, blockStep_of_holdsInstr hs hi, hx]

/-- An instruction that ends the run leaves nothing for the host to do (R163). -/
theorem step_of_holdsInstr_of_ended (hs : s.ended = false) (hi : s.holdsInstr i) (hx : exec i s = .next t)
    (ht : t.ended = true) : step s = .next t := by
  rw [step_of_holdsInstr hs hi hx, hostTurn_of_ended ht]

/-- The outcome of a step is read off the state `exec` leaves (R150). -/
theorem stepReport_of_holdsInstr (hs : s.ended = false) (hi : s.holdsInstr i) (hx : exec i s = .next t) :
    stepReport s = some (reportOf (ioRequest i s) t) := by
  simp [stepReport, hs, fetch_of_holdsInstr hi, hx]

end

/-- Settles O5: the fetch gives the instruction that stands at PC, and the host's turn follows its `exec`. -/
theorem stepRunsDecodedInstruction : Obligations.StepRunsDecodedInstruction := fun _ _ hs hi =>
  ⟨blockStep_of_holdsInstr hs hi, fun _ => step_of_holdsInstr hs hi⟩

theorem ended_iff (s : State) : s.ended = true ↔ s.halted = true ∨ s.fault ≠ none := by
  rw [State.ended, Bool.or_eq_true, Option.isSome_iff_ne_none]

theorem fault_eq_none_of_running {s : State} (h : s.ended = false) : s.fault = none := by
  by_contra hf
  exact absurd ((ended_iff s).mpr (.inr hf)) (by simp [h])

theorem halted_eq_false_of_running {s : State} (h : s.ended = false) : s.halted = false := by
  by_contra hh
  exact absurd ((ended_iff s).mpr (.inl (by simpa using hh))) (by simp [h])

/-- Settles O6: both the step and its report look first at whether the run has ended. -/
theorem stepAfterEndOfRunStops : Obligations.StepAfterEndOfRunStops := by
  intro s h
  have he : s.ended = true := (ended_iff s).mpr h
  exact ⟨by simp [step, blockStep, he], by simp [stepReport, he]⟩

/-! ### The host's turn -/

theorem drain_singleton (s : State) (e : HostEvent) : s.drain [e] = s.handle e := by
  rw [drain_cons, drain_nil, ite_self]

/-- Draining two runs of events is draining the first, then the second unless the run has ended (R163). -/
theorem drain_append {s : State} (hs : s.fault = none) (es fs : List HostEvent) :
    s.drain (es ++ fs) = if (s.drain es).fault = none then (s.drain es).drain fs else s.drain es := by
  induction es generalizing s with
  | nil => rw [List.nil_append, drain_nil, if_pos hs]
  | cons e rest ih =>
    rw [List.cons_append, drain_cons, drain_cons]
    by_cases he : (s.handle e).fault = none
    · simpa [he] using ih he
    · have he' : (s.handle e).fault.isSome = true := Option.isSome_iff_ne_none.mpr he
      rw [if_pos he', if_pos he', if_neg he]

/-- The host's next turn: its events, and then the clear it may ask for, if the run has not ended (R50, R163). -/
theorem hostTurn_of_turn {s : State} {turn : HostTurn} {rest : List HostTurn} (hs : s.ended = false)
    (ht : s.timeline = turn :: rest) :
    s.hostTurn = if turn.clearDirty = true ∧ (State.drain { s with timeline := rest } turn.events).ended = false
      then { State.drain { s with timeline := rest } turn.events with dirty := false }
      else State.drain { s with timeline := rest } turn.events := by
  simp [State.hostTurn, hs, ht, State.clearDirty]

/-- The state a bare `raise(v)` leaves is the one it answers with, whichever answer that is (R158). -/
theorem handle_raise_of_answer {s u : State} {v : Nat}
    (h : s.raise v = .lost u ∨ s.raise v = .delivered u ∨ s.raise v = .faulted u) : s.handle (.raise v) = u := by
  rw [handle_raise, State.hostRaise]
  obtain h | h | h := h <;> rw [h]

/-- Settles O7: the step ends with the host's turn, which is the drain of its events in order. -/
theorem iterationDrainsEventsInOrder : Obligations.IterationDrainsEventsInOrder := by
  intro s t i hs hi hx
  have hstep := step_of_holdsInstr hs hi hx
  refine ⟨step_of_holdsInstr_of_ended hs hi hx, fun _ h => ?_, fun turn rest ht h => ?_,
    fun w es fs hw => drain_append hw es fs,
    fun w => ⟨rfl, drain_singleton w, rfl, fun _ _ => handle_raise_of_answer, fun _ _ => rfl⟩⟩
  · rw [hstep, hostTurn_of_empty h]
  · exact ⟨_, hstep, hostTurn_of_turn ht h⟩

/-- Settles O8: the fetch stops at the first byte of the encoding whose address is out of range. -/
theorem fetchesOutOfRangeFault : Obligations.FetchesOutOfRangeFault := fetchFaults_of_instr

/-! ### The rows that are no instruction -/

/-- The 13 rows of the opcode map that match no family (R78). -/
def unimplementedRows : List Instr :=
  [.alias08, .alias10, .alias18, .alias20, .alias28, .alias30, .alias38, .aliasCB, .aliasD9, .aliasDD, .aliasED,
    .aliasFD, .daa]

/-- Each of the 13 is no instruction under any parameters, and is performed as unimplemented. -/
theorem unimplementedRows_exec {i : Instr} (h : i ∈ unimplementedRows) :
    (∀ c, i.wf c = false) ∧ ∀ s, exec i s = performUnimplemented i s := by
  simp only [unimplementedRows, List.mem_cons, List.not_mem_nil, or_false] at h
  obtain rfl | rfl | rfl | rfl | rfl | rfl | rfl | rfl | rfl | rfl | rfl | rfl | rfl := h <;>
    exact ⟨fun _ => rfl, fun _ => rfl⟩

/-- A row is no instruction where it is one of R78's, or PCHL that is not enabled (R144). -/
theorem wf_eq_false_iff (i : Instr) (c : Config) :
    i.wf c = false ↔ i ∈ unimplementedRows ∨ (i = .pchl ∧ c.enablePchl = false) := by
  constructor
  · intro h
    cases i with
    | alias08 | alias10 | alias18 | alias20 | alias28 | alias30 | alias38 | aliasCB | aliasD9 | aliasDD | aliasED
    | aliasFD | daa => exact .inl (by decide)
    | pchl => exact .inr ⟨rfl, h⟩
    | _ => cases h
  · rintro (h | ⟨rfl, h⟩)
    · exact (unimplementedRows_exec h).1 c
    · exact h

/-- The opcode values of R78. -/
def unimplementedOpcodes : List Byte :=
  [0x08#8, 0x10#8, 0x18#8, 0x20#8, 0x28#8, 0x30#8, 0x38#8, 0xCB#8, 0xD9#8, 0xDD#8, 0xED#8, 0xFD#8, 0x27#8]

theorem unimplementedRows_opcode :
    ∀ i ∈ unimplementedRows, encode i = [i.opcode] ∧ i.opcode ∈ unimplementedOpcodes := by
  decide

theorem unimplementedOpcodes_head :
    ∀ op ∈ unimplementedOpcodes, ∃ i ∈ unimplementedRows, decodeOpcode op = .bare i := by
  simp [unimplementedOpcodes, unimplementedRows, decodeOpcode, decodeBlock0, decodeBlock3, Byte.field]

/-- An opcode without operands names one instruction. -/
theorem eq_of_opcode {i j : Instr} (h : decodeOpcode i.opcode = .bare j) : i = j := by
  rcases head_of_encoding i with ⟨op, e, hd⟩ | ⟨op, v, k, e, hd, -⟩ | ⟨op, w, k, e, hd, -⟩ <;>
    rw [opcode_of_encode e, hd] at h
  · exact Head.bare.inj h
  · cases h
  · cases h

/-- The 13 rows are the ones whose opcode is a value of R78. -/
theorem mem_unimplementedRows_iff (i : Instr) : i ∈ unimplementedRows ↔ i.opcode ∈ unimplementedOpcodes := by
  refine ⟨fun h => (unimplementedRows_opcode i h).2, fun h => ?_⟩
  obtain ⟨j, hj, hd⟩ := unimplementedOpcodes_head _ h
  rwa [eq_of_opcode hd]

theorem eq_pchl_iff (i : Instr) : i = .pchl ↔ i.opcode = 0xE9#8 :=
  ⟨fun h => by rw [h]; rfl, fun h => eq_of_opcode (by rw [h]; rfl)⟩

theorem encode_of_not_wf {i : Instr} {c : Config} (h : i.wf c = false) : encode i = [i.opcode] := by
  obtain h | ⟨rfl, -⟩ := (wf_eq_false_iff i c).mp h
  · exact (unimplementedRows_opcode i h).1
  · rfl

/-- A row that is no instruction ends the run with UnimplementedOpcode (R152). -/
theorem exec_of_not_wf {i : Instr} {s : State} (h : i.wf s.cfg = false) :
    exec i s = .next (s.unimplementedAt i.opcode) := by
  obtain h | ⟨rfl, hp⟩ := (wf_eq_false_iff i s.cfg).mp h
  · exact (unimplementedRows_exec h).2 s
  · exact if_neg (by simp [hp])

/-- Settles O9: the opcode values of R78 and their rows name each other, and each row is performed as unimplemented. -/
theorem unimplementedOpcodesFault : Obligations.UnimplementedOpcodesFault := by
  intro s i
  constructor
  · rw [wf_eq_false_iff, mem_unimplementedRows_iff, eq_pchl_iff]
    rfl
  · intro h
    have hx := exec_of_not_wf h
    have he : (s.unimplementedAt i.opcode).ended = true := (ended_iff _).mpr (.inr (Option.some_ne_none _))
    exact ⟨encode_of_not_wf h, hx, fun hs hi =>
      ⟨step_of_holdsInstr_of_ended hs hi hx he, stepReport_of_holdsInstr hs hi hx⟩⟩

end Sys2Proof.Machine
end

section
/-! Once and for all, what the pseudocode of an instruction comes to: a property that the writes its family may make keep
holds of the state its access leaves, and an access that is out of range is so at an address without an index. The
statements about what instructions may touch follow (spec/10_state.md R24, R26; spec/20_memory.md R56;
spec/60_exceptions.md R151, R155). -/

namespace Sys2Proof.Machine

/-! ### Accesses -/

/-- `P` holds of the state an access leaves, and an access that is out of range names an address without an index. -/
def Access.Sound (P : State → Prop) (r : Access) : Prop :=
  match r with
  | .done s => P s
  | .outOfRange s a => P s ∧ indexOf s.cfg a = none

/-- What the pseudocode of `i` may write keeps `P`: memory only where `i` stores, PC only where it transfers control. -/
structure BodyKeeps (i : Instr) (P : State → Prop) : Prop where
  gate    : storesToMemory i → ∀ s k a v, P s → P (s.gate k a v)
  pc      : transfersControl i → ∀ s x, P s → P { s with pc := x }
  regs    : ∀ s x, P s → P { s with regs := x }
  sp      : ∀ s x, P s → P { s with sp := x }
  flags   : ∀ s x, P s → P { s with flags := x }
  ime     : ∀ s x, P s → P { s with ime := x }
  halted  : ∀ s x, P s → P { s with halted := x }
  shifter : ∀ s x, P s → P { s with shifter := x }

section
variable {P : State → Prop} {s : State}

theorem Access.Sound.after {r : Access} (h : r.Sound P) : P r.after := by
  cases r with
  | done s => exact h
  | outOfRange s a => exact h.1

theorem loadByte_sound (hs : P s) (a : Addr) {k : Byte → Access} (hk : ∀ v, (k v).Sound P) :
    (s.loadByte a k).Sound P := by
  cases h : indexOf s.cfg a with
  | some i => rw [loadByte_of_index h]; exact hk _
  | none => rw [loadByte_of_no_index h]; exact ⟨hs, h⟩

theorem loadWord_sound (hs : P s) (a : Addr) {k : Word → Access} (hk : ∀ v, (k v).Sound P) :
    (s.loadWord a k).Sound P :=
  loadByte_sound hs a fun _ => loadByte_sound hs (a + 1) fun _ => hk _

theorem readSlot_sound (hs : P s) (x : Slot) {k : Byte → Access} (hk : ∀ v, (k v).Sound P) :
    (s.readSlot x k).Sound P := by
  cases x with
  | reg r => exact hk _
  | mem => exact loadByte_sound hs _ hk

theorem andThen_sound {r : Access} {f : State → Access} (h : r.Sound P) (hf : ∀ u, P u → (f u).Sound P) :
    (r.andThen f).Sound P := by
  cases r with
  | done s => exact hf s h
  | outOfRange s a => exact h

theorem storeByte_sound (hg : ∀ s k a v, P s → P (s.gate k a v)) (hs : P s) (a : Addr) (v : Byte) :
    (s.storeByte a v).Sound P := by
  cases h : indexOf s.cfg a with
  | some i => rw [storeByte_of_index h]; exact hg s i a v hs
  | none => rw [storeByte_of_no_index h]; exact ⟨hs, h⟩

theorem storeWord_sound (hg : ∀ s k a v, P s → P (s.gate k a v)) (hs : P s) (a : Addr) (v : Word) :
    (s.storeWord a v).Sound P :=
  andThen_sound (storeByte_sound hg hs a _) fun _ hu => storeByte_sound hg hu _ _

theorem enter_sound (hg : ∀ s k a v, P s → P (s.gate k a v)) (hsp : ∀ s x, P s → P { s with sp := x })
    (hpc : ∀ s x, P s → P { s with pc := x }) (hs : P s) (a : Addr) : (s.enter a).Sound P :=
  andThen_sound (storeWord_sound hg (hsp _ _ hs) _ _) fun _ hu => hpc _ _ hu

end

section
variable {i : Instr} {P : State → Prop} (c : BodyKeeps i P) {s : State}
include c

theorem writeSlot_sound (hs : P s) (x : Slot) (v : Byte) (hx : x = .mem → storesToMemory i) :
    (s.writeSlot x v).Sound P := by
  cases x with
  | reg r => exact c.regs _ _ hs
  | mem => exact storeByte_sound (c.gate (hx rfl)) hs _ _

theorem writeSlotSzp_sound (hs : P s) (x : Slot) (v : Byte) (hx : x = .mem → storesToMemory i) :
    (writeSlotSzp x v s).Sound P :=
  andThen_sound (writeSlot_sound c hs x v hx) fun _ hu => c.flags _ _ hu

theorem setPair_of_bodyKeeps (hs : P s) (rr : RegPair) (v : Word) : P (s.setPair rr v) := by
  cases rr with
  | sp => exact c.sp _ _ hs
  | _ => exact c.regs _ _ hs

theorem setStackPair_of_bodyKeeps (hs : P s) (rr : StackPair) (v : Word) : P (s.setStackPair rr v) := by
  cases rr with
  | psw => exact c.flags _ _ (c.regs _ _ hs)
  | _ => exact c.regs _ _ hs

theorem pop16_sound (hs : P s) {k : Word → State → Access} (hk : ∀ v u, P u → (k v u).Sound P) :
    (s.pop16 k).Sound P :=
  loadWord_sound hs _ fun v => hk v _ (c.sp _ _ hs)

theorem leave_sound (ht : transfersControl i) (hs : P s) : s.leave.Sound P :=
  pop16_sound c hs fun _ _ hu => c.pc ht _ _ hu

theorem alu_of_bodyKeeps (hs : P s) (op : AluOp) (v : Byte) : P (alu op v s) :=
  c.flags _ _ (c.regs _ _ hs)

theorem portOut_of_bodyKeeps (hs : P s) (p v : Byte) : P (s.portOut p v) := by
  unfold State.portOut
  split
  · exact c.shifter _ _ hs
  · split
    · exact c.shifter _ _ hs
    · exact hs

end

theorem perform_sound {P : State → Prop} {i : Instr} {body : State → Access} {s : State}
    (h : (body (s.advance i.length)).Sound P) :
    ∃ r : Access, r.Sound P ∧ perform i body s = .next (r.settle (some i.opcode)) :=
  ⟨_, h, rfl⟩

/-- Every row that is an instruction comes to an access, of whose state holds what holds where PC is past the
instruction and its writes keep. -/
theorem exec_sound {i : Instr} {P : State → Prop} {s : State} (hw : i.wf s.cfg = true) (c : BodyKeeps i P)
    (hs : P (s.advance i.length)) :
    ∃ r : Access, r.Sound P ∧ exec i s = .next (r.settle (some i.opcode)) := by
  induction i using instr_by_family with
  | nop => exact perform_sound (body := noOperation) hs
  | mov d r hne =>
    rw [exec_mov _ _ _ hne]
    refine perform_sound (readSlot_sound hs r fun v => writeSlot_sound c hs d v fun hd => ?_)
    cases r with
    | reg r => exact .inl ⟨r, by rw [hd]⟩
    | mem => exact absurd ⟨hd, rfl⟩ hne
  | mvi d v =>
    rw [exec_mvi]
    exact perform_sound (writeSlot_sound c hs d v fun hd => .inr (.inl ⟨v, by rw [hd]⟩))
  | lxi rr v => rw [exec_lxi]; exact perform_sound (setPair_of_bodyKeeps c hs rr v)
  | ldax r => rw [exec_ldax]; exact perform_sound (loadByte_sound hs _ fun _ => c.regs _ _ hs)
  | stax r => rw [exec_stax]; exact perform_sound (storeByte_sound (c.gate (by simp [storesToMemory])) hs _ _)
  | lda a => exact perform_sound (body := loadA a) (loadByte_sound hs _ fun _ => c.regs _ _ hs)
  | sta a => exact perform_sound (body := storeA a) (storeByte_sound (c.gate (by simp [storesToMemory])) hs _ _)
  | lhld a => exact perform_sound (body := loadHl a) (loadWord_sound hs _ fun _ => setPair_of_bodyKeeps c hs .hl _)
  | shld a => exact perform_sound (body := storeHl a) (storeWord_sound (c.gate (by simp [storesToMemory])) hs _ _)
  | push rr =>
    rw [exec_push]
    exact perform_sound (storeWord_sound (c.gate (by simp [storesToMemory])) (c.sp _ _ hs) _ _)
  | pop rr =>
    rw [exec_pop]
    exact perform_sound (pop16_sound c hs fun _ _ hu => setStackPair_of_bodyKeeps c hu rr _)
  | xchg => exact perform_sound (body := exchangeDeHl) (c.regs _ _ hs)
  | xthl =>
    exact perform_sound (body := exchangeTopHl) (loadWord_sound hs _ fun _ =>
      andThen_sound (storeWord_sound (c.gate (by simp [storesToMemory])) hs _ _) fun _ hu =>
        setPair_of_bodyKeeps c hu .hl _)
  | sphl => exact perform_sound (body := copyHlToSp) (c.sp _ _ hs)
  | inx rr => rw [exec_inx]; exact perform_sound (setPair_of_bodyKeeps c hs rr _)
  | dcx rr => rw [exec_dcx]; exact perform_sound (setPair_of_bodyKeeps c hs rr _)
  | dad rr => rw [exec_dad]; exact perform_sound (c.flags _ _ (c.regs _ _ hs))
  | alu op x => rw [exec_alu]; exact perform_sound (readSlot_sound hs x fun _ => alu_of_bodyKeeps c hs op _)
  | aluImm op v => rw [exec_aluImm]; exact perform_sound (alu_of_bodyKeeps c hs op v)
  | rlc => exact perform_sound (body := rotateA .rlc) (c.flags _ _ (c.regs _ _ hs))
  | rrc => exact perform_sound (body := rotateA .rrc) (c.flags _ _ (c.regs _ _ hs))
  | ral => exact perform_sound (body := rotateA .ral) (c.flags _ _ (c.regs _ _ hs))
  | rar => exact perform_sound (body := rotateA .rar) (c.flags _ _ (c.regs _ _ hs))
  | cma => exact perform_sound (body := complementA) (c.regs _ _ hs)
  | cmc => exact perform_sound (body := complementCarry) (c.flags _ _ hs)
  | stc => exact perform_sound (body := setCarry) (c.flags _ _ hs)
  | inr x =>
    rw [exec_inr]
    exact perform_sound (readSlot_sound hs x fun _ =>
      writeSlotSzp_sound c hs x _ (by rintro rfl; simp [storesToMemory]))
  | dcr x =>
    rw [exec_dcr]
    exact perform_sound (readSlot_sound hs x fun _ =>
      writeSlotSzp_sound c hs x _ (by rintro rfl; simp [storesToMemory]))
  | rcc cc =>
    rw [exec_rcc]
    refine perform_sound ?_
    unfold returnIf
    split
    · exact leave_sound c (by simp [transfersControl]) hs
    · exact hs
  | ret => exact perform_sound (body := State.leave) (leave_sound c (by simp [transfersControl]) hs)
  | jcc cc a =>
    rw [exec_jcc]
    refine perform_sound ?_
    rw [jumpIf_eq]
    exact c.pc (by simp [transfersControl]) _ _ hs
  | jmp a => exact perform_sound (body := jumpTo a) (c.pc (by simp [transfersControl]) _ _ hs)
  | ccc cc a =>
    rw [exec_ccc]
    refine perform_sound ?_
    unfold callIf
    split
    · exact enter_sound (c.gate (by simp [storesToMemory])) c.sp (c.pc (by simp [transfersControl])) hs a
    · exact hs
  | call a =>
    exact perform_sound (body := callTo a)
      (enter_sound (c.gate (by simp [storesToMemory])) c.sp (c.pc (by simp [transfersControl])) hs a)
  | rst n hn =>
    rw [exec_rst _ _ hn]
    exact perform_sound (enter_sound (c.gate (by simp [storesToMemory])) c.sp (c.pc (by simp [transfersControl])) hs _)
  | pchl =>
    rw [show exec .pchl s = perform .pchl jumpToHl s from if_pos hw]
    exact perform_sound (c.pc (by simp [transfersControl]) _ _ hs)
  | ei => exact perform_sound (body := enableInterrupts) (c.ime _ _ hs)
  | di => exact perform_sound (body := disableInterrupts) (c.ime _ _ hs)
  | inp p => exact perform_sound (body := inputPort p) (c.regs _ _ hs)
  | out p => exact perform_sound (body := outputPort p) (portOut_of_bodyKeeps c hs p _)
  | hlt => exact perform_sound (body := haltRun) (c.halted _ _ hs)
  | unimplemented i hf _ _ => exact absurd hw (by simp [hf])

/-- The same for every row, of a property that says nothing of the fault record: a row that is no instruction moves PC
past its one byte and takes its fault. -/
theorem exec_bodyKeeps {i : Instr} {P : State → Prop} {s t : State} (h : exec i s = .next t) (c : BodyKeeps i P)
    (hf : ∀ u f, P u → P { u with fault := f }) (hs : P (s.advance i.length)) : P t := by
  cases hw : i.wf s.cfg with
  | true =>
    obtain ⟨r, hr, hx⟩ := exec_sound hw c hs
    obtain ⟨f, e⟩ := settle_eq r (some i.opcode)
    rw [hx, e] at h
    cases h
    exact hf _ _ hr.after
  | false =>
    rw [exec_of_not_wf hw] at h
    cases h
    rw [Instr.length, encode_of_not_wf hw] at hs
    exact hf _ _ hs

/-- Settles O53: without the gate, no write of an instruction touches the three fields. -/
theorem onlyStoresTouchMemory : Obligations.OnlyStoresTouchMemory := by
  intro i s t h hi
  have keeps : BodyKeeps i fun u => u.mem = s.mem ∧ u.dirty = s.dirty ∧ u.events = s.events := by
    constructor
    case gate => exact fun hm => absurd hm hi
    all_goals intros; assumption
  exact exec_bodyKeeps h keeps (fun _ _ hu => hu) ⟨rfl, rfl, rfl⟩

/-- Settles O54: PC is moved past the instruction, and nothing else its pseudocode writes is PC. -/
theorem pcAdvancesByLength : Obligations.PcAdvancesByLength := by
  intro i s t h hi
  have keeps : BodyKeeps i fun u => u.pc = s.pc + BitVec.ofNat 16 i.length := by
    constructor
    case gate => exact fun _ u k a v hu => (u.gate_pc k a v).trans hu
    case pc => exact fun ht => absurd ht hi
    all_goals intros; assumption
  exact exec_bodyKeeps h keeps (fun _ _ hu => hu) rfl

/-- Settles O55: an instruction's access is done, with no fault, or out of range; every other row is unimplemented. -/
theorem instructionsFaultOnlyAsListed : Obligations.InstructionsFaultOnlyAsListed := by
  intro i s hs
  cases hw : i.wf s.cfg with
  | true =>
    have keeps : BodyKeeps i fun u => u.cfg = s.cfg ∧ u.fault = none := by
      constructor
      case gate => exact fun _ u k a v hu => by simpa using hu
      all_goals intros; assumption
    obtain ⟨r, hr, hx⟩ := exec_sound (s := s) hw keeps ⟨rfl, hs⟩
    refine ⟨_, hx, ?_⟩
    cases r with
    | done u => exact .inl hr.2
    | outOfRange u a =>
      obtain ⟨⟨hc, -⟩, ha⟩ := hr
      exact .inr (.inl ⟨a, hc ▸ ha, rfl⟩)
  | false => exact ⟨_, exec_of_not_wf hw, .inr (.inr ⟨rfl, rfl⟩)⟩

end Sys2Proof.Machine
end

section
/-! Proofs of the statements about who writes a flag (spec/10_state.md R26, R28) and who writes the control state (R31,
R33, R37). -/

namespace Sys2Proof.Machine

/-! ### What the core's writes leave alone -/

/-- The part of the state outside memory, the registers, SP, PC and the fault record that an instruction may still
write, and the alternation marker. -/
def State.control (s : State) : Flags × Bool × Shifter × Bool × BitVec 3 :=
  (s.flags, s.ime, s.shifter, s.halted, s.altLast)

theorem coreKeeps_control {α : Type} (g : Flags × Bool × Shifter × Bool × BitVec 3 → α) (x : α) :
    CoreKeeps fun u => g u.control = x where
  gate s i a v h := by simpa [State.control] using h
  regs _ _ h := h
  sp _ _ h := h
  pc _ _ h := h
  fault _ _ h := h

section
variable {P : State → Prop} {s : State}

/-- What the core's writes and a write of IME keep, an interrupt keeps (R158). -/
theorem raise_keeps (c : CoreKeeps P) (hi : ∀ u x, P u → P { u with ime := x }) (hs : P s) (v : Nat) :
    P (s.raise v).after := by
  unfold State.raise
  split
  · exact c.fault _ _ hs
  · split
    · have he := enter_keeps c hs (entryPoint v)
      cases hr : s.enter (entryPoint v) with
      | done t => rw [hr] at he; exact hi _ _ he
      | outOfRange t a => rw [hr] at he; exact c.fault _ _ he
    · exact hs

theorem hostRaise_eq (s : State) (v : Nat) : s.hostRaise v = (s.raise v).after := by
  unfold State.hostRaise
  cases s.raise v <;> rfl

/-- A tick is a raise, but for the alternation marker (R160). -/
theorem tick_eq (s : State) : ∃ x, s.tick = { (s.raise s.tickVector.toNat).after with altLast := x } := by
  unfold State.tick
  cases s.raise s.tickVector.toNat with
  | lost t =>
    dsimp only
    split
    · exact ⟨_, rfl⟩
    · exact ⟨t.altLast, rfl⟩
  | delivered t => exact ⟨_, rfl⟩
  | faulted t => exact ⟨t.altLast, rfl⟩

/-- What the core's writes and writes of IME, the marker and the latches keep, every event keeps (R163). -/
theorem handle_keeps (c : CoreKeeps P) (hi : ∀ u x, P u → P { u with ime := x })
    (ha : ∀ u x, P u → P { u with altLast := x }) (hl : ∀ u x, P u → P { u with latch := x }) (hs : P s)
    (e : HostEvent) : P (s.handle e) := by
  cases e with
  | tick =>
    obtain ⟨x, hx⟩ := tick_eq s
    rw [handle_tick, hx]
    exact ha _ _ (raise_keeps c hi hs _)
  | raise v =>
    rw [handle_raise, hostRaise_eq]
    exact raise_keeps c hi hs v
  | latch p b => exact hl _ _ hs

end

/-! ### The flags -/

/-- The two flags that S, Z and P of a result leave alone (R16). -/
def Flags.carries (f : Flags) : Bool × Bool := (f.cy, f.ac)

section
variable {i : Instr} {s t : State}

/-- A slot counted up or down, with S, Z and P of its new value: CY and AC stay (R133, R134). -/
theorem perform_count_carries {x : Slot} {f : Byte → Byte}
    (h : perform i (fun u => u.readSlot x fun v => writeSlotSzp x (f v) u) s = .next t) :
    t.flags.carries = s.flags.carries := by
  have c := coreKeeps_control (fun y => y.1.carries) s.flags.carries
  have hs : (s.advance i.length).flags.carries = s.flags.carries := rfl
  refine perform_keeps c h (readSlot_after (P := fun u => u.flags.carries = s.flags.carries) hs x fun v => ?_)
  exact andThen_after (P := fun u => u.flags.carries = s.flags.carries)
    (writeSlot_keeps (s := s.advance i.length) c hs x (f v)) fun _ hu => hu

/-- INR and DCR write neither CY nor AC. -/
theorem exec_inr_dcr_carries (h : exec i s = .next t) (hi : (∃ x, i = .inr x) ∨ ∃ x, i = .dcr x) :
    t.flags.cy = s.flags.cy ∧ t.flags.ac = s.flags.ac := by
  obtain ⟨x, rfl⟩ | ⟨x, rfl⟩ := hi
  · rw [exec_inr] at h
    exact Prod.mk.inj (perform_count_carries h)
  · rw [exec_dcr] at h
    exact Prod.mk.inj (perform_count_carries h)

/-- No ALU operation writes AC (R28, R109). -/
theorem exec_alu_auxCarry (h : exec i s = .next t) (hi : (∃ op x, i = .alu op x) ∨ ∃ op v, i = .aluImm op v) :
    t.flags.ac = s.flags.ac := by
  have c := coreKeeps_control (fun y => y.1.ac) s.flags.ac
  obtain ⟨op, x, rfl⟩ | ⟨op, v, rfl⟩ := hi
  · rw [exec_alu] at h
    have hs : (s.advance (Instr.alu op x).length).flags.ac = s.flags.ac := rfl
    exact perform_keeps c h (readSlot_after (P := fun u => u.flags.ac = s.flags.ac) hs x fun _ => hs)
  · rw [exec_aluImm] at h
    exact perform_keeps c h rfl

/-- DAD, the rotates, STC and CMC write CY alone. -/
theorem exec_carryOnly (h : exec i s = .next t)
    (hi : (∃ rr, i = .dad rr) ∨ i = .rlc ∨ i = .rrc ∨ i = .ral ∨ i = .rar ∨ i = .stc ∨ i = .cmc) :
    t.flags.s = s.flags.s ∧ t.flags.z = s.flags.z ∧ t.flags.p = s.flags.p ∧ t.flags.ac = s.flags.ac := by
  obtain ⟨rr, rfl⟩ | rfl | rfl | rfl | rfl | rfl | rfl := hi
  · rw [exec_dad] at h
    cases h
    exact ⟨rfl, rfl, rfl, rfl⟩
  all_goals
    cases h
    exact ⟨rfl, rfl, rfl, rfl⟩

/-- Every other instruction but POP PSW writes no flag (R26). -/
theorem exec_flags (h : exec i s = .next t) :
    ((∃ op x, i = .alu op x) ∨ (∃ op v, i = .aluImm op v) ∨ (∃ x, i = .inr x) ∨ (∃ x, i = .dcr x) ∨
      (∃ rr, i = .dad rr) ∨ i = .rlc ∨ i = .rrc ∨ i = .ral ∨ i = .rar ∨ i = .stc ∨ i = .cmc ∨ i = .popPsw) ∨
      t.flags = s.flags := by
  by_contra hn
  obtain ⟨hw, hf⟩ := not_or.mp hn
  exact hf (exec_keeps _ (coreKeeps_control (fun y => y.1) s.flags) rfl h (fun _ hi => absurd hi hw)
    (fun _ _ _ hu => hu) (fun _ _ _ hu => hu) (fun _ _ _ hu => hu))

end

/-- ANA, XRA and ORA clear CY (R114-R116). -/
theorem aluCarry_of_logic {op : AluOp} (h : op = .ana ∨ op = .xra ∨ op = .ora) (sense : SubCySense) (a v : Byte)
    (cy : Bool) : aluCarry sense op a v cy = false := by
  obtain rfl | rfl | rfl := h <;> rfl

/-- ANA, XRA and ORA of a slot clear CY unless the read of the slot faults. -/
theorem exec_alu_logic_carry {op : AluOp} {x : Slot} {s t : State} (h : exec (.alu op x) s = .next t)
    (hop : op = .ana ∨ op = .xra ∨ op = .ora) (ht : t.fault = none) : t.flags.cy = false := by
  rw [exec_alu] at h
  cases x with
  | reg r =>
    cases h
    exact aluCarry_of_logic hop _ _ _ _
  | mem =>
    cases hi : indexOf s.cfg s.regs.hl with
    | some k =>
      rw [perform_loadByte_of_index (f := fun v => alu op v (s.advance 1)) (length_alu op .mem) rfl hi] at h
      cases h
      exact aluCarry_of_logic hop _ _ _ _
    | none =>
      obtain ⟨u, hu, ho⟩ := perform_loadByte_of_no_index (i := .alu op .mem) (body := aluSlot op .mem)
        (length_alu op .mem) rfl rfl hi
      rw [hu] at h
      cases h
      rw [ho] at ht
      cases ht

theorem portTransfer_flags (s : State) (io : IoRequest) : (s.portTransfer io).flags = s.flags := by
  cases io with
  | none => rfl
  | inp p => rfl
  | out p v => exact s.portOut_flags p v

theorem handle_flags (s : State) (e : HostEvent) : (s.handle e).flags = s.flags :=
  handle_keeps (coreKeeps_control (fun y => y.1) s.flags) (fun _ _ h => h) (fun _ _ h => h) (fun _ _ h => h) rfl e

/-- Settles O50: each row of the table by its family, and no flag outside the table. -/
theorem flagsWrittenByTable : Obligations.FlagsWrittenByTable := by
  intro i s t h
  refine ⟨exec_alu_auxCarry h, ?_, ?_, exec_inr_dcr_carries h, exec_carryOnly h, ?_,
    portTransfer_flags s, handle_flags s⟩
  · rintro op x rfl hop ht
    exact exec_alu_logic_carry h hop ht
  · rintro op v rfl hop
    rw [exec_aluImm] at h
    cases h
    exact aluCarry_of_logic hop _ _ _ _
  · simpa only [or_assoc] using exec_flags h

/-- POP PSW is the only instruction that writes AC. -/
theorem exec_auxCarry {i : Instr} {s t : State} (h : exec i s = .next t) (hi : i ≠ .popPsw) :
    t.flags.ac = s.flags.ac := by
  obtain (hw | hw | hw | hw | hw | hw | hw | hw | hw | hw | hw | hw) | hf := exec_flags h
  · exact exec_alu_auxCarry h (.inl hw)
  · exact exec_alu_auxCarry h (.inr hw)
  · exact (exec_inr_dcr_carries h (.inl hw)).2
  · exact (exec_inr_dcr_carries h (.inr hw)).2
  iterate 7 exact (exec_carryOnly h (by tauto)).2.2.2
  · exact absurd hw hi
  · rw [hf]

/-- Settles O51: neither a fetch out of range nor the host's turn writes a flag, so AC changed in `exec`. -/
theorem onlyPopPswWritesAuxCarry : Obligations.OnlyPopPswWritesAuxCarry := by
  intro s t h hne
  have host (u : State) (hu : u.flags.ac = s.flags.ac) : u.hostTurn.flags.ac = s.flags.ac :=
    hostTurn_keeps (P := fun w => w.flags.ac = s.flags.ac) hu (fun _ _ _ => hu)
      (fun _ _ _ e _ w hw => by rw [handle_flags w e, hw]) (fun _ _ _ _ _ hw => hw)
  obtain ⟨-, ⟨u, hu, rfl⟩ | ⟨i, u, hf, hu, rfl⟩⟩ := step_cases h
  · obtain ⟨p, a, b, -, rfl⟩ := fetch_trapped hu
    exact (hne (host _ rfl)).elim
  · by_cases hi : i = .popPsw
    · rw [hf, hi]
    · exact absurd (host _ (exec_auxCarry hu hi)) hne

/-! ### The control state -/

/-- Settles O52: each field is kept by every instruction but the ones that write it. -/
theorem controlStateWriters : Obligations.ControlStateWriters := by
  intro i s t h
  have he := exec_evolves h
  refine ⟨fun hei hdi => ?_, fun hout => ?_, fun hhlt => ?_, he.latch, ?_, he.cfg, he.timeline⟩
  · exact exec_keeps _ (coreKeeps_control (fun y => y.2.1) s.ime) rfl h (fun _ _ _ hu => hu)
      (fun hi => absurd hi (not_or.mpr ⟨hei, hdi⟩)) (fun _ _ _ hu => hu) (fun _ _ _ hu => hu)
  · exact exec_keeps _ (coreKeeps_control (fun y => y.2.2.1) s.shifter) rfl h (fun _ _ _ hu => hu)
      (fun _ _ _ hu => hu) (fun _ _ _ hu => hu) (fun ⟨p, hi⟩ => absurd hi (hout p))
  · exact exec_keeps _ (coreKeeps_control (fun y => y.2.2.2.1) s.halted) rfl h (fun _ _ _ hu => hu)
      (fun _ _ _ hu => hu) (fun hi => absurd hi hhlt) (fun _ _ _ hu => hu)
  · exact exec_keeps _ (coreKeeps_control (fun y => y.2.2.2.2) s.altLast) rfl h (fun _ _ _ hu => hu)
      (fun _ _ _ hu => hu) (fun _ _ _ hu => hu) (fun _ _ _ hu => hu)

end Sys2Proof.Machine
end

section
/-! Proofs of the whole iteration's statements: the protected bytes (spec/20_memory.md R47, R49, R60), the video window
and `dirty` (R35, R46, R50), the event log and the latches (spec/10_state.md R32, R36), and the state invariant. Each is
a property that gated writes keep (`Evolves`) and that the host's events keep. -/

namespace Sys2Proof.Machine

/-! ### An iteration -/

/-- A property that gated writes, the passing of a turn, and the latch writes and the clear of the turn keep is kept by
an iteration. -/
theorem step_keeps {P : State → Prop} {s t : State} (h : step s = .next t) (hs : P s)
    (hev : ∀ u w, Evolves u w → P u → P w) (hrest : ∀ u rest, P u → P { u with timeline := rest })
    (hl : ∀ turn p b, s.timeline.head? = some turn → .latch p b ∈ turn.events → ∀ u, P u → P (u.latchWrite p b))
    (hc : ∀ turn, s.timeline.head? = some turn → turn.clearDirty = true → ∀ u, P u → P u.clearDirty) : P t := by
  obtain ⟨u, hu, rfl⟩ := step_evolves h
  have head {turn : HostTurn} {rest : List HostTurn} (ht : u.timeline = turn :: rest) :
      s.timeline.head? = some turn := by
    rw [← hu.timeline, ht, List.head?_cons]
  refine hostTurn_keeps (hev s u hu hs) (fun _ _ _ => hrest _ _ (hev s u hu hs)) (fun turn rest ht e he w hw => ?_)
    (fun turn rest ht => hc turn (head ht))
  cases e with
  | tick => exact hev w _ (tick_evolves w) hw
  | raise v => exact hev w _ (hostRaise_evolves w v) hw
  | latch p b => exact hl turn p b (head ht) he w hw

/-- Settles O58: a gated write changes no byte below the limit, and no event of the host writes memory otherwise. -/
theorem protectedBytesNeverChange : Obligations.ProtectedBytesNeverChange := by
  intro s t j h hj
  have kept := step_keeps (P := fun u => u.cfg = s.cfg ∧ u.mem.read j = s.mem.read j) h ⟨rfl, rfl⟩
    (fun u w huw ⟨hcfg, hread⟩ => ⟨huw.cfg.trans hcfg, (huw.read_protected (by rwa [hcfg])).trans hread⟩)
    (fun _ _ hu => hu) (fun _ _ _ _ _ _ hu => hu) (fun _ _ _ _ hu => hu)
  exact kept.2

/-! ### The video window -/

/-- `dirty` of `t` is up where it is up at `s`, and where a byte of the video window differs (R35, R46). -/
def State.videoTracked (s t : State) : Prop :=
  t.cfg = s.cfg ∧ (s.dirty = true → t.dirty = true) ∧
    ∀ j, s.cfg.videoBase ≤ j → j < s.cfg.videoLimit → t.mem.read j ≠ s.mem.read j → t.dirty = true

section
variable {s : State} {i j : Nat} {a : Addr} {v : Byte}

/-- A gated write never clears `dirty`. -/
theorem gate_dirty_of_dirty (h : s.dirty = true) : (s.gate i a v).dirty = true := by
  unfold State.gate
  split
  · exact h
  · split
    · rfl
    · exact h

/-- A gated write that changes a byte of the video window raises `dirty` (R46). -/
theorem gate_dirty_of_video (hlo : s.cfg.videoBase ≤ j) (hhi : j < s.cfg.videoLimit)
    (hne : (s.gate i a v).mem.read j ≠ s.mem.read j) : (s.gate i a v).dirty = true := by
  obtain rfl : j = i := by
    by_contra hji
    exact hne (gate_read_ne hji)
  have hp : ¬ j < s.cfg.protectLimit := fun hp => hne (by rw [gate_mem_of_protected hp])
  rw [State.gate, if_neg hp, if_pos ⟨hlo, hhi⟩]

end

theorem videoTracked_gate {s t : State} (h : s.videoTracked t) (i : Nat) (a : Addr) (v : Byte) :
    s.videoTracked (t.gate i a v) := by
  obtain ⟨hcfg, hdirty, hvideo⟩ := h
  refine ⟨by simpa using hcfg, fun hd => gate_dirty_of_dirty (hdirty hd), fun j hlo hhi hne => ?_⟩
  by_cases hj : (t.gate i a v).mem.read j = t.mem.read j
  · exact gate_dirty_of_dirty (hvideo j hlo hhi (by rwa [← hj]))
  · exact gate_dirty_of_video (by rwa [hcfg]) (by rwa [hcfg]) hj

theorem videoTracked_evolves {s t u : State} (h : s.videoTracked t) (htu : Evolves t u) : s.videoTracked u := by
  induction htu with
  | refl => exact h
  | gate v _ _ ih => exact videoTracked_gate ih _ _ v
  | core _ hm hd _ _ hcfg _ ih =>
    obtain ⟨h1, h2, h3⟩ := ih
    exact ⟨hcfg.trans h1, by rwa [hd], by rwa [hm, hd]⟩

/-- Settles O59: gated writes track the window, and only the clear of the turn lowers `dirty`. -/
theorem videoChangesRaiseDirty : Obligations.VideoChangesRaiseDirty := by
  intro s t h hclear
  have tracked : s.videoTracked t := by
    refine step_keeps h ⟨rfl, id, fun _ _ _ hne => absurd rfl hne⟩ (fun u w huw hu => videoTracked_evolves hu huw)
      (fun _ _ hu => hu) (fun _ _ _ _ _ _ hu => hu) (fun turn ht hc => ?_)
    rw [hclear turn ht] at hc
    cases hc
  exact tracked.2

/-! ### The event log and the latches -/

theorem latchWrite_read (s : State) {p : Byte} {q : Nat} (b : Byte) (h : p.toNat ≠ q) :
    (s.latchWrite p b).latch.read q = s.latch.read q :=
  Memory.read_write_ne _ _ h.symm

/-- Settles O60: gated writes only append events and leave the latches, which the turn's latch writes alone change. -/
theorem eventLogGrowsAndHostOwnsLatches : Obligations.EventLogGrowsAndHostOwnsLatches := by
  intro s t h
  refine step_keeps (P := fun u => s.events <+: u.events ∧ u.cfg = s.cfg ∧ ∀ q, u.latch.read q ≠ s.latch.read q →
      ∃ turn p b, s.timeline.head? = some turn ∧ HostEvent.latch p b ∈ turn.events ∧ p.toNat = q)
    h ⟨List.prefix_refl _, rfl, fun _ hne => absurd rfl hne⟩ ?_ (fun _ _ hu => hu) ?_ (fun _ _ _ _ hu => hu)
  · rintro u w huw ⟨hlog, hcfg, hlatch⟩
    exact ⟨hlog.trans huw.events_prefix, huw.cfg.trans hcfg, by rwa [huw.latch]⟩
  · rintro turn p b ht he u ⟨hlog, hcfg, hlatch⟩
    refine ⟨hlog, hcfg, fun q hne => ?_⟩
    by_cases hpq : p.toNat = q
    · exact ⟨turn, p, b, ht, he, hpq⟩
    · exact hlatch q (by rwa [latchWrite_read u b hpq] at hne)

/-! ### The state invariant -/

/-- The part of the invariant about what gated writes and latch writes may touch: the parameters, memory, the latches and
the event log. -/
def State.storageWf (s : State) : Prop :=
  s.cfg.wf = true ∧ s.mem.wf = true ∧ s.mem.below s.cfg.memSize = true ∧ s.latch.wf = true ∧
    s.latch.below 256 = true ∧ s.events.all (ProtectedWrite.wf s.cfg) = true

/-- The part about the end of the run: a fault record is one R151 allows, and the run has not halted too. -/
def State.endWf (s : State) : Prop :=
  s.fault.all (FaultRecord.wf s.cfg) = true ∧ (s.halted && s.fault.isSome) = false

theorem wf_iff (s : State) : s.wf = true ↔ s.storageWf ∧ s.endWf := by
  simp only [State.wf, State.storageWf, State.endWf, Bool.and_eq_true, Bool.not_eq_true', and_assoc]

/-- The free presence port is neither the buttons port nor the shift port (R7, log entry 2). -/
theorem openPresentPort_ne : Config.openPresentPort ≠ 0x01#8 ∧ Config.openPresentPort ≠ 0x03#8 := by
  have hn := Config.openPresentChoice.isLt
  unfold Config.openPresentPort
  generalize Config.openPresentChoice.val = n at hn
  dsimp only
  split
  · decide
  · split
    · decide
    · constructor <;> (rw [Ne, ← BitVec.toNat_inj, BitVec.toNat_ofNat]; simp; omega)

theorem reference_wf : Config.reference.wf = true := by
  have hports : Config.reference.inputPortsDistinct = true := by
    simpa [Config.inputPortsDistinct, Config.reference] using openPresentPort_ne
  rw [Config.wf, hports]
  rfl

/-- Settles O56: the reset values are empty, and the reference parameters meet R7. -/
theorem stateInvariantAtReset : Obligations.StateInvariantAtReset :=
  (wf_iff _).mpr ⟨⟨reference_wf, rfl, rfl, rfl, rfl, rfl⟩, rfl, rfl⟩

/-- A dropped write is logged with the protected address it named (R46). -/
theorem gate_events_wf {s : State} {i : Nat} {a : Addr} (v : Byte) (hi : indexOf s.cfg a = some i)
    (h : s.events.all (ProtectedWrite.wf s.cfg) = true) :
    (s.gate i a v).events.all (ProtectedWrite.wf s.cfg) = true := by
  unfold State.gate
  split
  · rename_i hp
    simpa [ProtectedWrite.wf, hi, hp] using h
  · split <;> exact h

theorem Evolves.events_wf {s t : State} (h : Evolves s t) (he : s.events.all (ProtectedWrite.wf s.cfg) = true) :
    t.events.all (ProtectedWrite.wf s.cfg) = true := by
  induction h with
  | refl => exact he
  | @gate u i a v hu hi ih =>
    rw [← hu.cfg] at ih ⊢
    exact gate_events_wf v hi ih
  | core _ _ _ h3 _ _ _ ih => rwa [h3]

theorem storageWf_evolves {s t : State} (h : Evolves s t) (hs : s.storageWf) : t.storageWf := by
  obtain ⟨hcfg, hmem, hbelow, hlatch, hlbelow, hlog⟩ := hs
  unfold State.storageWf
  rw [h.cfg, h.latch]
  exact ⟨hcfg, h.mem_wf hmem, h.mem_below hcfg hbelow, hlatch, hlbelow, h.events_wf hlog⟩

theorem storageWf_latchWrite {s : State} (hs : s.storageWf) (p b : Byte) : (s.latchWrite p b).storageWf := by
  obtain ⟨hcfg, hmem, hbelow, hlatch, hlbelow, hlog⟩ := hs
  exact ⟨hcfg, hmem, hbelow, Memory.write_wf hlatch _ b, Memory.write_below b p.isLt hlbelow, hlog⟩

theorem step_storageWf {s t : State} (h : step s = .next t) (hs : s.storageWf) : t.storageWf :=
  step_keeps h hs (fun _ _ => storageWf_evolves) (fun _ _ hu => hu) (fun _ p b _ _ _ hu => storageWf_latchWrite hu p b)
    (fun _ _ _ _ hu => hu)

/-- The opcode of a row that is no instruction is not implemented (R78). -/
theorem opcodeImplemented_of_not_wf {i : Instr} {c : Config} (h : i.wf c = false) :
    opcodeImplemented c i.opcode = false := by
  have e := encode_of_not_wf h
  rcases head_of_encoding i with ⟨op, e', hd⟩ | ⟨op, v, k, e', -, -⟩ | ⟨op, w, k, e', -, -⟩
  · rwa [opcode_of_encode e', opcodeImplemented, hd]
  · simp [e'] at e
  · simp [e'] at e

theorem endWf_of_no_fault {s : State} (h : s.fault = none) : s.endWf := by
  simp [State.endWf, h]

theorem endWf_of_not_halted {s : State} (h : s.halted = false) (hf : s.fault.all (FaultRecord.wf s.cfg) = true) :
    s.endWf :=
  ⟨hf, by rw [h, Bool.false_and]⟩

/-- An instruction ends a run as R151 or R149 says, and never both ways. -/
theorem exec_endWf {i : Instr} {s t : State} (hs : s.ended = false) (h : exec i s = .next t) : t.endWf := by
  by_cases hi : i = .hlt
  · have hfault := fault_eq_none_of_running hs
    subst hi
    cases h
    exact endWf_of_no_fault hfault
  · have hhalted : t.halted = false := by
      obtain ⟨-, -, hh, -⟩ := controlStateWriters i s t h
      rw [hh hi, halted_eq_false_of_running hs]
    have hcfg : t.cfg = s.cfg := (exec_evolves h).cfg
    obtain ⟨u, hu, hf⟩ := instructionsFaultOnlyAsListed i s (fault_eq_none_of_running hs)
    rw [h] at hu
    cases hu
    obtain hf | ⟨a, ha, hf⟩ | ⟨hw, hf⟩ := hf
    · exact endWf_of_no_fault hf
    · exact endWf_of_not_halted hhalted (by simp [hf, FaultRecord.wf, hcfg, ha])
    · exact endWf_of_not_halted hhalted (by simp [hf, FaultRecord.wf, hcfg, opcodeImplemented_of_not_wf hw])

/-- What holds while the host's events happen: the parameters are `c`, the run has not halted, and a fault record is one
R151 allows. -/
def State.drainWf (c : Config) (s : State) : Prop :=
  s.cfg = c ∧ s.halted = false ∧ s.fault.all (FaultRecord.wf c) = true

theorem drainWf_takeFault {c : Config} {s : State} (hs : s.drainWf c) {kind : FaultKind} {a : Addr} {b : Option Byte}
    (h : FaultRecord.wf c { kind := kind, addr := a, byte := b } = true) : (s.takeFault kind a b).drainWf c :=
  ⟨hs.1, hs.2.1, h⟩

/-- An interrupt faults as R158 says, or leaves the record as it was. -/
theorem raise_drainWf {c : Config} {s : State} (hs : s.drainWf c) (v : Nat) : (s.raise v).after.drainWf c := by
  unfold State.raise
  split
  · exact drainWf_takeFault hs rfl
  · split
    · have he : (s.enter (entryPoint v)).Sound (State.drainWf c) :=
        enter_sound (fun u k a v hu => by simpa [State.drainWf] using hu) (fun _ _ hu => hu) (fun _ _ hu => hu) hs _
      cases hr : s.enter (entryPoint v) with
      | done t => rw [hr] at he; exact he
      | outOfRange t a =>
        rw [hr] at he
        obtain ⟨ht, ha⟩ := he
        exact drainWf_takeFault ht (by rw [FaultRecord.wf, ← ht.1, ha]; rfl)
    · exact hs

theorem handle_drainWf {c : Config} {s : State} (hs : s.drainWf c) (e : HostEvent) : (s.handle e).drainWf c := by
  cases e with
  | tick =>
    obtain ⟨x, hx⟩ := tick_eq s
    rw [handle_tick, hx]
    exact raise_drainWf hs _
  | raise v =>
    rw [handle_raise, hostRaise_eq]
    exact raise_drainWf hs v
  | latch p b => exact hs

theorem hostTurn_endWf {s : State} (hs : s.endWf) : s.hostTurn.endWf := by
  by_cases he : s.ended = true
  · rwa [hostTurn_of_ended he]
  · have running : s.ended = false := by simpa using he
    have hd : s.drainWf s.cfg := ⟨rfl, halted_eq_false_of_running running, hs.1⟩
    obtain ⟨hcfg, hhalted, hfault⟩ := hostTurn_keeps (P := State.drainWf s.cfg) hd (fun _ _ _ => hd)
      (fun _ _ _ e _ _ hw => handle_drainWf hw e) (fun _ _ _ _ _ hw => hw)
    exact endWf_of_not_halted hhalted (by rwa [hcfg])

/-- Settles O57: the storage by its own invariant, and the end of the run by the step that made it or the event that
did. -/
theorem everyStepKeepsStateInvariant : Obligations.EveryStepKeepsStateInvariant := by
  intro s t hs h
  refine (wf_iff t).mpr ⟨step_storageWf h ((wf_iff s).mp hs).1, ?_⟩
  obtain ⟨running, ⟨u, hu, rfl⟩ | ⟨i, u, -, hu, rfl⟩⟩ := step_cases h
  · have hhalted := halted_eq_false_of_running running
    obtain ⟨p, a, b, ha, rfl⟩ := fetch_trapped hu
    exact hostTurn_endWf (endWf_of_not_halted hhalted (by simp [FaultRecord.wf, ha]))
  · exact hostTurn_endWf (exec_endWf running hu)

end Sys2Proof.Machine
end

section
/-! Proofs of the statements about word reads: LHLD (spec/40_data_transfer.md R93), POP and XTHL
(spec/41_stack_exchange.md R96, R97, R100, R101, R103). -/

namespace Sys2Proof.Machine

/-! ### Instructions that read a word -/

section
variable {i : Instr} {body : State → Access} {s : State} {a : Addr} {op : Byte} {n : Nat}

/-- An instruction that reads a word and is done with it, in range (R52). -/
theorem perform_loadWord_of_index {k k' : Nat} {f : Word → State} (hn : i.length = n)
    (hb : body (s.advance n) = (s.advance n).loadWord a fun v => .done (f v)) (h : indexOf s.cfg a = some k)
    (h' : indexOf s.cfg (a + 1) = some k') :
    perform i body s = .next (f (Word.join (s.mem.read k') (s.mem.read k))) :=
  perform_of_done hn (hb.trans (loadWord_of_index (s := s.advance n) h h' _))

/-- An instruction that begins with a word read, its first byte out of range. -/
theorem perform_loadWord_of_no_index {f : Word → Access} (hn : i.length = n) (ho : i.opcode = op)
    (hb : body (s.advance n) = (s.advance n).loadWord a f) (h : indexOf s.cfg a = none) :
    ∃ t, perform i body s = .next t ∧ (s.advance n).outOfRangeAt t a (some op) :=
  ⟨_, perform_of_outOfRange hn ho (hb.trans (loadWord_of_no_index (s := s.advance n) h _)), rfl⟩

/-- The same with its second byte alone out of range. -/
theorem perform_loadWord_of_no_second_index {f : Word → Access} (hn : i.length = n) (ho : i.opcode = op)
    (hb : body (s.advance n) = (s.advance n).loadWord a f) (h : indexOf s.cfg a ≠ none)
    (h' : indexOf s.cfg (a + 1) = none) :
    ∃ t, perform i body s = .next t ∧ (s.advance n).outOfRangeAt t (a + 1) (some op) :=
  ⟨_, perform_of_outOfRange hn ho (hb.trans (loadWord_of_no_second_index (s := s.advance n) h h' _)), rfl⟩

end

/-- A write of HL is a write of H and L (R21). -/
theorem setPair_hl_join (s : State) (h l : Byte) :
    s.setPair .hl (Word.join h l) = { s with regs := { s.regs with h := h, l := l } } := by
  simp [State.setPair, Regs.setHl]

/-- Settles O17: LHLD is one word read into HL. -/
theorem loadHlDirect : Obligations.LoadHlDirect := by
  intro s a
  have hb : loadHl a (s.advance 3) = (s.advance 3).loadWord a fun v => .done ((s.advance 3).setPair .hl v) := rfl
  rw [← Word.low_eq_setWidth, ← Word.high_eq_setWidth]
  refine ⟨rfl, fun k k' h h' => ?_, perform_loadWord_of_no_index rfl rfl hb,
    perform_loadWord_of_no_second_index rfl rfl hb, fetchFaults_of_instr _⟩
  refine (perform_loadWord_of_index rfl hb h h').trans ?_
  rw [setPair_hl_join]
  rfl

/-! ### POP -/

/-- Format S (R68): the pair in bits 5..4 of `11 rr 0001`. -/
theorem encode_pop (rr : StackPair) : encode (.pop rr) = [BitVec.ofNat 8 (0xC1 + 16 * stackPairNumber rr)] := by
  cases rr <;> rfl

theorem length_pop (rr : StackPair) : (Instr.pop rr).length = 1 :=
  length_of_encode_singleton (encode_pop rr)

/-- Settles O20: POP is one word read at SP, into the pair, or into A and the flags. -/
theorem popLoadsFromStackPointer : Obligations.PopLoadsFromStackPointer := by
  intro s rr
  have hb : popPair rr (s.advance 1) = (s.advance 1).loadWord s.sp fun v =>
      .done (State.setStackPair { s.advance 1 with sp := s.sp + 2 } rr v) := rfl
  rw [exec_pop]
  refine ⟨encode_pop rr, fun k k' h h' => ?_, perform_loadWord_of_no_index (length_pop rr) rfl hb,
    perform_loadWord_of_no_second_index (length_pop rr) rfl hb⟩
  rw [perform_loadWord_of_index (length_pop rr) hb h h']
  cases rr <;> simp [State.setStackPair, Regs.setBc, Regs.setDe, Regs.setHl, Regs.set, Flags.ofByte, State.advance]

/-! ### XTHL -/

theorem sameBesideMemory_regs {s t : State} (h : s.sameBesideMemory t) : t.regs = s.regs := by
  unfold State.sameBesideMemory at h
  rw [h]

/-- A gated word write leaves the registers. -/
theorem gateWroteWord_regs {s t : State} {a : Addr} {v : Word} (h : s.gateWroteWord t a v) : t.regs = s.regs := by
  obtain ⟨u, ⟨_, _, hu, _⟩, ⟨_, _, ht, _⟩⟩ := h
  exact (sameBesideMemory_regs ht).trans (sameBesideMemory_regs hu)

/-- Settles O23: XTHL is a word read at SP, then one gated word write of HL there, then the write of HL. -/
theorem exchangeStackTop : Obligations.ExchangeStackTop := by
  intro s hm
  have hb : exchangeTopHl (s.advance 1) = (s.advance 1).loadWord s.sp fun v =>
      ((s.advance 1).storeWord s.sp s.regs.hl).andThen fun t => .done (t.setPair .hl v) := rfl
  refine ⟨rfl, fun k k' h h' => ?_, perform_loadWord_of_no_index rfl rfl hb,
    perform_loadWord_of_no_second_index rfl rfl hb⟩
  obtain ⟨u, hu, hw⟩ := storeWord_done (s := s.advance 1) (a := s.sp) (w := s.regs.hl) hm
    (Option.ne_none_iff_exists'.mpr ⟨k, h⟩) (Option.ne_none_iff_exists'.mpr ⟨k', h'⟩)
  have hx : exchangeTopHl (s.advance 1) = .done (u.setPair .hl (Word.join (s.mem.read k') (s.mem.read k))) := by
    rw [hb, loadWord_of_index (s := s.advance 1) h h', hu]
    rfl
  refine ⟨_, u, perform_of_done rfl hx, hw, ?_⟩
  rw [setPair_hl_join, gateWroteWord_regs hw]
  rfl

/-! ### A push, then a pop -/

/-- The state a push of `w` leaves where both its bytes have their own addresses as indexes (R95). -/
def State.pushed (s : State) (w : Word) : State :=
  (State.gate { s with sp := s.sp - 2 } (s.sp - 2).toNat (s.sp - 2) w.low).gate (s.sp - 1).toNat (s.sp - 1) w.high

section
variable {s : State} {w : Word}

theorem pushed_regs : (s.pushed w).regs = s.regs := by simp [State.pushed]

theorem pushed_flags : (s.pushed w).flags = s.flags := by simp [State.pushed]

theorem pushed_sp : (s.pushed w).sp = s.sp - 2 := by simp [State.pushed]

theorem pushed_cfg : (s.pushed w).cfg = s.cfg := by simp [State.pushed]

theorem push16_of_lt (h : (s.sp - 2).toNat < s.cfg.memSize) (h' : (s.sp - 1).toNat < s.cfg.memSize) :
    s.push16 w = .done (s.pushed w) := by
  rw [State.pushed, ← sp_sub_two_add_one]
  exact storeWord_of_index (indexOf_of_lt h) (indexOf_of_lt (by rwa [sp_sub_two_add_one]))

theorem stack_indexes_ne (x : Word) : (x - 2).toNat ≠ (x - 1).toNat := by bv_omega

/-- Where both bytes are writable, the pushed word stands on the stack. -/
theorem pushed_read_of_writable (hm : s.mem.wf = true) (h : s.cfg.protectLimit ≤ (s.sp - 2).toNat)
    (h' : s.cfg.protectLimit ≤ (s.sp - 1).toNat) :
    (s.pushed w).mem.read (s.sp - 2).toNat = w.low ∧ (s.pushed w).mem.read (s.sp - 1).toNat = w.high := by
  have hlow := gate_mem_of_writable (s := { s with sp := s.sp - 2 }) (a := s.sp - 2) (v := w.low) (not_lt.mpr h)
  unfold State.pushed
  constructor
  · rw [gate_read_ne (stack_indexes_ne s.sp), hlow, Memory.read_write_self hm]
  · rw [gate_mem_of_writable (by simpa using h'), hlow, Memory.read_write_self (Memory.write_wf hm _ _)]

/-- Where both bytes are protected, the push drops them and memory stays (R46). -/
theorem pushed_mem_of_protected (h : (s.sp - 2).toNat < s.cfg.protectLimit)
    (h' : (s.sp - 1).toNat < s.cfg.protectLimit) : (s.pushed w).mem = s.mem := by
  unfold State.pushed
  rw [gate_mem_of_protected (by simpa using h'), gate_mem_of_protected (s := { s with sp := s.sp - 2 }) h]

/-- A pop where a push left SP reads the two bytes the push was to store, and SP is as before the push. -/
theorem pop16_after_push {t : State} (hsp : t.sp = s.sp - 2) (h : (s.sp - 2).toNat < t.cfg.memSize)
    (h' : (s.sp - 1).toNat < t.cfg.memSize) (k : Word → State → Access) :
    t.pop16 k = k (Word.join (t.mem.read (s.sp - 1).toNat) (t.mem.read (s.sp - 2).toNat)) { t with sp := s.sp } := by
  rw [pop16_of_index (i := (s.sp - 2).toNat) (j := (s.sp - 1).toNat), hsp, sp_sub_two_add_two]
  · rw [hsp]
    exact indexOf_of_lt h
  · rw [hsp, sp_sub_two_add_one]
    exact indexOf_of_lt h'

end

/-- What a stack pair reads back: the word, but for the reserved bits of the flags byte (R29, R30, R71). -/
theorem stackPair_setStackPair (s : State) (rr : StackPair) (v : Word) :
    (s.setStackPair rr v).stackPair rr =
      Word.join v.high (if rr = .psw then (v.low &&& 0xD5#8) ||| 0x02#8 else v.low) := by
  cases rr <;>
    simp [State.stackPair, State.setStackPair, Regs.bc, Regs.de, Regs.hl, Regs.setBc, Regs.setDe, Regs.setHl, Regs.set,
      Flags.byte_ofByte]

/-- Writing a pair the word it held where the registers and the flags were the same restores both. -/
theorem setStackPair_stackPair {s t : State} (hr : t.regs = s.regs) (hf : t.flags = s.flags) (rr : StackPair) :
    (t.setStackPair rr (s.stackPair rr)).regs = s.regs ∧ (t.setStackPair rr (s.stackPair rr)).flags = s.flags := by
  cases rr <;>
    simp [State.stackPair, State.setStackPair, Regs.bc, Regs.de, Regs.hl, Regs.setBc, Regs.setDe, Regs.setHl, Regs.set,
      hr, hf]

theorem mem_wf_of_wf {s : State} (h : s.wf = true) : s.mem.wf = true := by
  obtain ⟨⟨-, hm, -⟩, -⟩ := (wf_iff s).mp h
  exact hm

/-- Settles O21: the pop reads where the push stored, so it finds the pair there, or what stood there before. -/
theorem pushThenPopRestores : Obligations.PushThenPopRestores := by
  intro s rr hs h h'
  have hm := mem_wf_of_wf hs
  obtain ⟨t, ht⟩ : ∃ t, t = (s.advance 1).pushed (s.stackPair rr) := ⟨_, rfl⟩
  have hregs : t.regs = s.regs := ht ▸ pushed_regs
  have hflags : t.flags = s.flags := ht ▸ pushed_flags
  have hcfg : t.cfg = s.cfg := ht ▸ pushed_cfg
  obtain ⟨v, hv⟩ : ∃ v, v = Word.join (t.mem.read (s.sp - 1).toNat) (t.mem.read (s.sp - 2).toNat) := ⟨_, rfl⟩
  have hpush : pushPair rr (s.advance 1) = .done t := by
    rw [ht, pushPair, stackPair_advance]
    exact push16_of_lt (s := s.advance 1) h h'
  have hpop : popPair rr (t.advance 1) = .done (State.setStackPair { t.advance 1 with sp := s.sp } rr v) := by
    rw [hv]
    exact pop16_after_push (s := s) (t := t.advance 1) (ht ▸ pushed_sp) (hcfg ▸ h) (hcfg ▸ h') _
  refine ⟨t, _, (exec_push rr s).trans (perform_of_done (length_push rr) hpush),
    (exec_pop rr t).trans (perform_of_done (length_pop rr) hpop), State.setStackPair_sp _ rr v, fun hp hp' => ?_,
    fun hp hp' => ?_⟩
  · obtain ⟨hlow, hhigh⟩ := pushed_read_of_writable (s := s.advance 1) (w := s.stackPair rr) hm hp hp'
    have restored : v = s.stackPair rr := by
      rw [hv, ht]
      exact (congrArg₂ Word.join hhigh hlow).trans (Word.join_high_low _)
    rw [restored]
    exact setStackPair_stackPair (t := { t.advance 1 with sp := s.sp }) hregs hflags rr
  · have hmem : t.mem = s.mem := ht ▸ pushed_mem_of_protected (s := s.advance 1) hp hp'
    rw [stackPair_setStackPair, Word.low_join, Word.high_join, hv, Word.low_join, Word.high_join, hmem]
    exact ⟨rfl, rfl⟩

end Sys2Proof.Machine
end

section
/-! Proofs of the control transfer's statements about returns, restarts and PCHL (spec/43_control_transfer.md R135-R138,
R143, R144), and of a call that comes back (R97). -/

namespace Sys2Proof.Machine

/-! ### Returns -/

/-- Format C, conditional return (R68): the condition in bits 5..3 of `11 ccc 000`. -/
theorem encode_rcc (cc : Cond) : encode (.rcc cc) = [BitVec.ofNat 8 (0xC0 + 8 * condNumber cc)] := by
  cases cc <;> rfl

theorem length_rcc (cc : Cond) : (Instr.rcc cc).length = 1 :=
  length_of_encode_singleton (encode_rcc cc)

section
variable {s : State} {cc : Cond}

theorem returnIf_of_not_taken (h : s.flags.cond cc = false) : returnIf cc s = .done s := by
  simp [returnIf, h]

theorem returnIf_of_taken (h : s.flags.cond cc = true) : returnIf cc s = s.leave := by
  simp [returnIf, h]

/-- RET, and Rcc where its condition holds, pop PC from the state whose PC is past the instruction (R137, R138). -/
theorem exec_return_of_taken {i : Instr} (h : i = .ret ∨ (i = .rcc cc ∧ s.flags.cond cc = true)) :
    ∃ body, exec i s = perform i body s ∧ i.length = 1 ∧ body (s.advance 1) = (s.advance 1).leave := by
  obtain rfl | ⟨rfl, hc⟩ := h
  · exact ⟨State.leave, rfl, rfl, rfl⟩
  · exact ⟨returnIf cc, exec_rcc cc s, length_rcc cc, returnIf_of_taken hc⟩

end

/-- Settles O32: an Rcc not taken is done where it stands; RET and a taken Rcc are one word read at SP into PC. -/
theorem returns : Obligations.Returns := by
  intro s cc
  refine ⟨fun f => ⟨rfl, rfl, rfl, rfl, rfl, rfl, rfl, rfl⟩, encode_rcc cc, rfl, fun hc => ?_, fun i hi => ?_⟩
  · exact (exec_rcc cc s).trans
      (perform_of_done (length_rcc cc) (returnIf_of_not_taken (s := s.advance 1) hc))
  · obtain ⟨body, hx, hl, hleave⟩ := exec_return_of_taken hi
    have hb : body (s.advance 1) = (s.advance 1).loadWord s.sp fun v =>
        .done { s.advance 1 with sp := s.sp + 2, pc := v } := hleave
    rw [hx]
    exact ⟨fun k k' => perform_loadWord_of_index hl hb, perform_loadWord_of_no_index hl rfl hb,
      perform_loadWord_of_no_second_index hl rfl hb⟩

/-! ### Restarts -/

/-- Format C, family 11 (R68, R74): the vector in bits 5..3 of `11 nnn 111`. -/
theorem encode_rst {n : Nat} (h : n < 8) : encode (.rst n) = [BitVec.ofNat 8 (0xC7 + 8 * n)] := by
  interval_cases n <;> rfl

/-- Settles O35: RST enters its vector, done after both gated writes, or stopped at the first stack byte that is out of
range. Under `wrap` the pushed bytes go where R44's index says (log entry 17). -/
theorem restarts : Obligations.Restarts := by
  intro s n hm hn
  have hl : (Instr.rst n).length = 1 := length_of_encode_singleton (encode_rst hn)
  rw [exec_rst n s hn, ← opcode_of_encode (encode_rst hn)]
  exact ⟨by rw [encode_rst hn, opcode_of_encode (encode_rst hn)], perform_enter_done hm hl rfl,
    perform_enter_outOfRange hm hl rfl⟩

/-! ### A call, then a return -/

/-- RST has eight vectors: a number above 7 selects the last. -/
theorem rst_eq_of_lt (n : Nat) : ∃ m, m < 8 ∧ Instr.rst n = .rst m := by
  by_cases h : n < 8
  · exact ⟨n, h, rfl⟩
  · obtain ⟨k, rfl⟩ := Nat.exists_eq_add_of_le' (not_lt.mp h)
    exact ⟨7, by decide, rfl⟩

/-- CALL, a taken Ccc and RST enter their target from the state whose PC is past the instruction (R141-R143). -/
theorem exec_enter {i : Instr} {s : State} (h : (∃ a, i = .call a) ∨
    (∃ cc a, i = .ccc cc a ∧ s.flags.cond cc = true) ∨ (∃ n, i = .rst n)) :
    ∃ body target, exec i s = perform i body s ∧
      body (s.advance i.length) = (s.advance i.length).enter target := by
  obtain ⟨a, rfl⟩ | ⟨cc, a, rfl, hc⟩ | ⟨n, rfl⟩ := h
  · exact ⟨callTo a, a, rfl, rfl⟩
  · exact ⟨callIf cc a, a, exec_ccc cc a s, callIf_of_taken hc⟩
  · obtain ⟨m, hm, e⟩ := rst_eq_of_lt n
    rw [e]
    exact ⟨restart m, entryPoint m, exec_rst m s hm, rfl⟩

/-- Settles O36: RET pops the word that the call pushed, the address after the call. -/
theorem callThenReturnComesBack : Obligations.CallThenReturnComesBack := by
  intro s i hs hi h h' hp hp'
  obtain ⟨body, target, hx, hb⟩ := exec_enter hi
  obtain ⟨r, hr⟩ : ∃ r, r = s.advance i.length := ⟨_, rfl⟩
  obtain ⟨t, ht⟩ : ∃ t, t = { r.pushed r.pc with pc := target } := ⟨_, rfl⟩
  have hregs : t.regs = s.regs := by rw [ht, hr]; exact pushed_regs
  have hflags : t.flags = s.flags := by rw [ht, hr]; exact pushed_flags
  have hcfg : t.cfg = s.cfg := by rw [ht, hr]; exact pushed_cfg
  have hsp : t.sp = s.sp - 2 := by rw [ht, hr]; exact pushed_sp
  have hcall : body r = .done t := by
    rw [hr, hb, State.enter, ← hr, push16_of_lt (hr ▸ h) (hr ▸ h'), ht]
    rfl
  have hword : Word.join (t.mem.read (s.sp - 1).toNat) (t.mem.read (s.sp - 2).toNat) = r.pc := by
    subst ht hr
    obtain ⟨hlow, hhigh⟩ := pushed_read_of_writable (s := s.advance i.length) (w := (s.advance i.length).pc)
      (mem_wf_of_wf hs) hp hp'
    exact (congrArg₂ Word.join hhigh hlow).trans (Word.join_high_low _)
  have hret : (t.advance 1).leave = .done { t.advance 1 with sp := s.sp, pc := r.pc } := by
    rw [← hword]
    exact pop16_after_push (s := s) (t := t.advance 1) hsp (hcfg ▸ h) (hcfg ▸ h') _
  refine ⟨t, _, hx.trans (perform_of_done rfl (hr ▸ hcall)), perform_of_done (body := State.leave) rfl hret,
    by rw [hr]; rfl, rfl, hregs, hflags⟩

end Sys2Proof.Machine

namespace Sys2Proof

/-- Settles O37: PCHL is an instruction by its parameter, and unimplemented otherwise. -/
theorem jumpToHl : Obligations.JumpToHl := by
  refine fun s => ⟨rfl, fun h => ?_, fun h => Machine.exec_of_not_wf (i := .pchl) h⟩
  exact (if_pos h).trans (Machine.perform_of_done (body := Machine.jumpToHl) rfl rfl)

end Sys2Proof
end

section
/-! Proofs of the statements about memory addresses (spec/20_memory.md R44, R45), interrupts and the host
(spec/60_exceptions.md R158, R160, R164; spec/20_memory.md R50, R65, R66), and interrupt toggles, ports and halt
(spec/44_system_io.md R145-R149; spec/60_exceptions.md R166-R168). -/

namespace Sys2Proof.Machine

/-! ### Addresses -/

/-- Settles O47: the index function by its tests, and a read by the index. -/
theorem addressesIndexMemory : Obligations.AddressesIndexMemory := fun _ _ hc =>
  ⟨indexOf_of_lt, fun h hp => by simp [indexOf, not_lt.mpr h, hp], fun h hp => by simp [indexOf, not_lt.mpr h, hp],
    fun _ h => ⟨indexOf_lt hc h, peek_of_index h⟩, peek_of_no_index⟩

/-! ### Interrupts -/

section
variable {s : State} {v : Nat}

/-- A vector above 7 faults (R158). -/
theorem raise_of_invalid (h : 7 < v) :
    s.raise v = .faulted (s.takeFault .invalidInternalSelector s.pc (some (BitVec.ofNat 8 v))) := by
  rw [State.raise, if_pos h]

/-- With IME 0 the interrupt is lost (R158). -/
theorem raise_of_masked (h : v ≤ 7) (hi : s.ime = false) : s.raise v = .lost s := by
  simp [State.raise, not_lt.mpr h, hi]

/-- With IME 1 the interrupt enters its vector, done (R158). -/
theorem raise_of_enter_done {t : State} (h : v ≤ 7) (hi : s.ime = true) (he : s.enter (entryPoint v) = .done t) :
    s.raise v = .delivered { t with ime := false } := by
  simp [State.raise, not_lt.mpr h, hi, he]

/-- With IME 1 and a stack byte out of range the interrupt faults (R158). -/
theorem raise_of_enter_outOfRange {t : State} {a : Addr} (h : v ≤ 7) (hi : s.ime = true)
    (he : s.enter (entryPoint v) = .outOfRange t a) : s.raise v = .faulted (t.takeFault .outOfRange a none) := by
  simp [State.raise, not_lt.mpr h, hi, he]

end

/-- Settles O42: the vector's bound and IME decide whether the interrupt enters its vector, done after both gated writes,
or stopped at the first stack byte that is out of range. Under `wrap` the pushed bytes go where R44's index says (log
entry 17). -/
theorem raiseDeliversOrLoses : Obligations.RaiseDeliversOrLoses := by
  intro s v hm
  refine ⟨fun h => ?_, raise_of_masked, fun h hi h1 h2 => ?_, fun h hi hout => ?_⟩
  · rw [raise_of_invalid h, State.takeFault]
    have hv : BitVec.ofNat 8 (v % 256) = BitVec.ofNat 8 v := by
      apply BitVec.eq_of_toNat_eq
      simp
    rw [hv]
  · obtain ⟨u, hu, hw⟩ := enter_done (entryPoint v) hm h1 h2
    exact ⟨_, u, raise_of_enter_done h hi hu, hw, rfl⟩
  · obtain ⟨t, c, ht, hw⟩ := enter_outOfRange (entryPoint v) hm none hout
    exact ⟨_, raise_of_enter_outOfRange h hi ht, hw⟩

/-- With IME 1 no interrupt is lost (R158). -/
theorem raise_ne_lost {s : State} (hi : s.ime = true) (v : Nat) (u : State) : s.raise v ≠ .lost u := by
  by_cases hv : 7 < v
  · rw [raise_of_invalid hv]
    exact Delivery.noConfusion
  · cases he : s.enter (entryPoint v) with
    | done t =>
      rw [raise_of_enter_done (not_lt.mp hv) hi he]
      exact Delivery.noConfusion
    | outOfRange t a =>
      rw [raise_of_enter_outOfRange (not_lt.mp hv) hi he]
      exact Delivery.noConfusion

section
variable {s t : State}

theorem tick_of_delivered (h : s.raise s.tickVector.toNat = .delivered t) :
    s.tick = { t with altLast := s.tickVector } := by
  rw [State.tick, h]

theorem tick_of_lost (h : s.raise s.tickVector.toNat = .lost t) :
    s.tick = if s.cfg.altAdvance = .onTick then { t with altLast := s.tickVector } else t := by
  rw [State.tick, h]

theorem tick_of_faulted (h : s.raise s.tickVector.toNat = .faulted t) : s.tick = t := by
  rw [State.tick, h]

end

/-- Settles O43: a tick is what `raise` answers, with the marker moved by that answer and `ALT_ADVANCE`. -/
theorem tickAlternatesVectors : Obligations.TickAlternatesVectors := by
  rintro s v rfl
  refine ⟨fun t => tick_of_delivered, fun t h => (tick_of_lost h).trans ?_, fun t => tick_of_faulted⟩
  cases s.cfg.altAdvance <;> rfl

/-! ### The host -/

/-- Settles O44: a latch write is one write of the latch file, and `videoRead` is a read of memory. -/
theorem hostWritesAndReads : Obligations.HostWritesAndReads := fun _ _ _ _ hl =>
  ⟨⟨_, rfl, rfl, Memory.read_write_self hl _ _, fun _ hq => Memory.read_write_ne _ _ hq⟩, rfl,
    fun h h' => if_pos ⟨h, h'⟩⟩

/-- Settles O45: the load is one run of writes from `LOAD_ORIGIN`. -/
theorem programLoad : Obligations.ProgramLoad := by
  intro s bytes hm
  refine ⟨fun h => if_neg (not_le.mpr h), fun h => ⟨_, if_pos h, rfl, fun k v hk => ?_, fun j hj => ?_⟩⟩
  · exact Memory.read_writeAll_inside hm _ _ hk
  · exact Memory.read_writeAll_outside _ _ _ hj

/-! ### Interrupt toggles and halt -/

/-- Settles O38: both write IME and nothing else, and IME decides whether a raise can be lost. -/
theorem interruptToggles : Obligations.InterruptToggles := fun _ =>
  ⟨rfl, rfl, perform_of_done (body := enableInterrupts) rfl rfl, perform_of_done (body := disableInterrupts) rfl rfl,
    raise_ne_lost rfl, fun _ hv => raise_of_masked (Nat.le_of_lt_succ hv) rfl⟩

/-- Settles O41: HLT is done at once, and a halted run takes no turn of the host. -/
theorem halt : Obligations.Halt := by
  intro s
  have hx : exec .hlt s = .next { s with halted := true, pc := s.pc + 1 } := perform_of_done (body := haltRun) rfl rfl
  refine ⟨rfl, hx, fun hs hi => ⟨?_, step_of_holdsInstr_of_ended hs hi hx rfl⟩⟩
  rw [stepReport_of_holdsInstr hs hi hx]
  simp [reportOf, fault_eq_none_of_running hs]

/-! ### Ports -/

/-- An instruction that leaves the run going reports its port request (R150). -/
theorem stepReport_continue {s t : State} {i : Instr} (hs : s.ended = false) (hi : s.holdsInstr i)
    (hx : exec i s = .next t) (hh : t.halted = s.halted) (hf : t.fault = s.fault) :
    stepReport s = some (.continue (ioRequest i s)) := by
  rw [stepReport_of_holdsInstr hs hi hx, reportOf, hf, fault_eq_none_of_running hs, hh,
    halted_eq_false_of_running hs]
  rfl

/-- The shift read in natural numbers (R166). -/
theorem Shifter.read_eq_ofNat (x : Shifter) :
    x.read = BitVec.ofNat 8 ((256 * x.hi.toNat + x.lo.toNat) / 2 ^ (8 - x.off.toNat)) := by
  apply BitVec.eq_of_toNat_eq
  rw [Shifter.read, BitVec.toNat_setWidth, BitVec.toNat_ushiftRight, Nat.shiftRight_eq_div_pow, BitVec.toNat_ofNat,
    ← Word.toNat_join]
  rfl

/-- Where the input ports are distinct (R7), the order of the tests makes no difference (log entry 8). -/
theorem portIn_eq {s : State} (hc : s.cfg.wf = true) (p : Byte) :
    s.portIn p = if p = s.cfg.portInPresent then s.cfg.presentValue
      else if p = s.cfg.portInButtons then s.latch.read s.cfg.portInButtons.toNat
      else if p = s.cfg.portInShift then s.shifter.read
      else 0 := by
  have distinct : s.cfg.portInPresent ≠ s.cfg.portInButtons ∧ s.cfg.portInPresent ≠ s.cfg.portInShift := by
    simp only [Config.wf, Config.inputPortsDistinct, Bool.and_eq_true, bne_iff_ne] at hc
    tauto
  by_cases hp : p = s.cfg.portInPresent
  · rw [State.portIn, if_neg (hp ▸ distinct.1), if_neg (hp ▸ distinct.2), if_pos hp, if_pos hp]
  · rw [if_neg hp]
    simp only [State.portIn, if_neg hp]
    rfl

/-- Settles O39: IN is done at once, with the port's byte in A. -/
theorem inputFromPort : Obligations.InputFromPort := by
  rintro s p v hc rfl
  rw [← Shifter.read_eq_ofNat, ← portIn_eq hc]
  have hx : exec (.inp p) s = .next { s with regs := { s.regs with a := s.portIn p }, pc := s.pc + 2 } :=
    perform_of_done (body := inputPort p) rfl rfl
  exact ⟨rfl, hx, fun hs hi => stepReport_continue hs hi hx rfl rfl, fetchFaults_of_instr _⟩

/-- A port write is one update of the shifter; where the two output ports are distinct (R7), the order of the tests makes
no difference. -/
theorem portOut_eq {s : State} (hc : s.cfg.wf = true) (p v : Byte) :
    s.portOut p v = { s with shifter :=
      if p = s.cfg.portOutShiftData then { s.shifter with hi := v, lo := s.shifter.hi }
      else if p = s.cfg.portOutShiftOffset then { s.shifter with off := v.setWidth 3 }
      else s.shifter } := by
  have distinct : s.cfg.portOutShiftOffset ≠ s.cfg.portOutShiftData := by
    simp only [Config.wf, Config.outputPortsDistinct, Bool.and_eq_true, bne_iff_ne] at hc
    exact hc.2
  by_cases hd : p = s.cfg.portOutShiftData
  · rw [State.portOut, if_neg (hd ▸ distinct.symm), if_pos hd, if_pos hd]
  · by_cases ho : p = s.cfg.portOutShiftOffset
    · rw [State.portOut, if_pos ho, if_neg hd, if_pos ho]
    · rw [State.portOut, if_neg ho, if_neg hd, if_neg hd, if_neg ho]

/-- The shift offset is the low three bits of A (R167). -/
theorem setWidth_three (v : Byte) : v.setWidth 3 = BitVec.ofNat 3 (v.toNat % 8) := by
  apply BitVec.eq_of_toNat_eq
  simp

/-- Settles O40: OUT is done at once, with the port write it asks for. -/
theorem outputToPort : Obligations.OutputToPort := by
  intro s p hc
  have hx := perform_of_done (i := .out p) (body := outputPort p) (s := s) rfl
    (congrArg Access.done (portOut_eq (s := s.advance 2) hc p s.regs.a))
  rw [← setWidth_three]
  exact ⟨rfl, hx, fun hs hi => stepReport_continue hs hi hx rfl rfl, fetchFaults_of_instr _⟩

end Sys2Proof.Machine
end
